-- ==== Sys2Proof/Word.lean ====
section
/-!
DEFINITION. The word types of the block (spec/00_scope.md R9, spec/30_encoding.md R70, R79).
-/

namespace Sys2Proof

/-- A byte, 8 bits (R9). -/
abbrev Byte := BitVec 8

/-- A 16-bit value: a device register, an operand field, the CRC register (R9). -/
abbrev Word := BitVec 16

/-- A host command word, 40 bits (spec/30_encoding.md R70). -/
abbrev CmdWord := BitVec 40

/-- A wire frame written as one 64-bit number, byte 0 in bits 63:56 (spec/30_encoding.md R79). -/
abbrev FrameWord := BitVec 64

end Sys2Proof
end

