-- ==== Sys2Proof/Config.lean ====
section
/-!
DEFINITION. What an instance of the block fixes (spec/00_scope.md R7, R8) and the draws of its environment
(R13: "a value the environment chooses freely, under no law"). A constant without a body is a value the
spec leaves open: nothing can be proved of it.
-/

namespace Sys2Proof

/-- The configuration registers (spec/10_state.md R31, spec/00_scope.md R7). No command writes them. -/
structure Params where
  /-- `DEV_ADDR`. -/
  devAddr : Byte
  /-- `SETTLE_MS`; 0 is legal. -/
  settleMs : Nat
  /-- `READ_DEADLINE_MS`; `none` is `INF`. -/
  readDeadlineMs : Option Nat
  /-- `CHECK_REPLY_CRC`. -/
  checkReplyCrc : Bool
  /-- `DEVICE_ID`: opaque, a token the block never interprets (log entry 8). -/
  deviceId : Nat
  deriving DecidableEq, Repr, Inhabited

/-- The four agents (spec/10_state.md R20). -/
inductive Agent where
  | host
  | block
  | transport
  | clock
  deriving DecidableEq, Repr, Inhabited

/-- The registers the host can read (spec/10_state.md R21, R43). -/
inductive HostReg where
  | status
  | data0
  | data1
  | rxLen
  | crcAcc
  deriving DecidableEq, Repr, Inhabited

/-- What the host can do in one step (spec/10_state.md R20, R43, spec/70_reset_and_hazards.md R240). -/
inductive HostMove where
  | idle
  | present (w : CmdWord)
  | read (r : HostReg)
  | reset
  deriving DecidableEq, Repr, Inhabited

/-- What the transport and device can do in one step of their own (spec/60_exceptions.md R216). Their
answers to a connect, a send and a receive are fields of `Draw`. -/
inductive TransportMove where
  | idle
  | deliver (bs : List Byte)
  | setError
  | setClosed
  deriving DecidableEq, Repr, Inhabited

/-- Everything one step may draw. Each field is free (R13). -/
structure Draw where
  /-- Which agent moves (R20, R214). -/
  agent : Agent
  hostMove : HostMove
  transportMove : TransportMove
  /-- The clock adds `tick + 1` (spec/10_state.md R38: `d >= 1`). -/
  tick : Nat
  /-- The transport's answer to a connect (spec/42_transactions.md R134). -/
  connectOk : Bool
  /-- The transport's answer to a send (R139). -/
  sendOk : Bool
  /-- Selects the length of a receive (R140). -/
  recvLen : Nat
  /-- Selects one of the enabled steps of phase RX (spec/60_exceptions.md R209). -/
  rxChoice : Nat
  /-- Whether a presented CLOSE is taken in place of the phase's own step (R209). -/
  abort : Bool
  deriving DecidableEq, Repr, Inhabited

/-- The draws of the environment, by number: free values (log entry 2). -/
opaque Config.draw : Nat → Draw

/-- `READ_DEADLINE_MS` of the instance: OPEN, no source gives a value (R7; log entry 8). -/
opaque Config.readDeadlineMs : Option Nat

/-- `DEVICE_ID` of the instance: OPEN (R7; log entry 8). -/
opaque Config.deviceId : Nat

/-- The configuration as built (R7). -/
def Config.built : Params where
  devAddr := 0x01#8
  settleMs := 100
  readDeadlineMs := Config.readDeadlineMs
  checkReplyCrc := true
  deviceId := Config.deviceId

/-- `REPLY_BUF_LEN` (R8). -/
def Config.replyBufLen : Nat := 10

/-- `MAX_REGS_PER_READ` (R8). -/
def Config.maxRegsPerRead : Nat := 2

end Sys2Proof
end

