-- ==== Sys2Proof/Syntax.lean ====
section
/-!
DEFINITION. The instructions: one constructor per row of spec/opcode_table.json, and the two shapes
they are carried in, the host command (spec/30_encoding.md R70) and the wire frame (R75).
-/

namespace Sys2Proof

/-- The three fields of a host command word (spec/30_encoding.md R70); also what `CUR` latches
(spec/10_state.md R36). -/
structure Command where
  op : Byte
  a : Word
  b : Word
  deriving DecidableEq, Repr, Inhabited

/-- An outgoing frame, exactly 8 bytes, in the order they go on the wire (spec/30_encoding.md R75). -/
structure Frame where
  addr : Byte
  fc : Byte
  f1hi : Byte
  f1lo : Byte
  f2hi : Byte
  f2lo : Byte
  crcLo : Byte
  crcHi : Byte
  deriving DecidableEq, Repr, Inhabited

/-- One constructor per row of spec/opcode_table.json. A command keeps its reserved fields, because a
non-zero one is an accepted command with a result of its own (spec/30_encoding.md R74). -/
inductive Instr where
  /-- `OP` 0x01; both operands must be 0 (R72). -/
  | connect (a b : Word)
  /-- `OP` 0x02; both operands must be 0 (R72). -/
  | close (a b : Word)
  /-- `OP` 0x03; start register and register count (R72). -/
  | readRegs (start count : Word)
  /-- `OP` 0x06; register address and value (R72). -/
  | writeReg (reg val : Word)
  /-- `OP` 0x10; both operands must be 0 (R72). -/
  | crcInit (a b : Word)
  /-- `OP` 0x11; `A` and `B[15:8]` must be 0, `B[7:0]` is the byte fed (R72). -/
  | crcFeed (a : Word) (bHi b : Byte)
  /-- The write frame, function code 0x06 (R76). -/
  | frameWriteSingleRegister (addr : Byte) (reg val : Word) (crcLo crcHi : Byte)
  /-- The read frame, function code 0x03, bytes 2 and 4 always 0x00 (R77). -/
  | frameReadRegisters (addr start count crcLo crcHi : Byte)
  /-- Every reserved `OP` value (R73); the operands are ignored. -/
  | reservedOp (op : Byte) (a b : Word)
  deriving DecidableEq, Repr, Inhabited

end Sys2Proof
end

