-- ==== Sys2Proof/Machine/State.lean ====
section
/-!
DEFINITION. The state of the block and of its environment (spec/10_state.md), the state after reset, and
the ways a step can stop. The block has no memory, no general register file and no program counter
(R21, R41, spec/20_memory.md).
-/

namespace Sys2Proof.Machine

/-- `STATUS.LINK` (R22, R26); the value 3 never occurs, so it is not a value of this type. -/
inductive Link where
  | unopened
  | opened
  | closed
  deriving DecidableEq, Repr, Inhabited

/-- `PHASE` (R35). -/
inductive Phase where
  | idle
  | tx
  | rx
  | decode
  | settle
  deriving DecidableEq, Repr, Inhabited

/-- An event of the wire log (R40). -/
inductive WireEvent where
  | connect (ok : Bool)
  | close
  | tx (frame : Frame) (ok : Bool)
  | rx (bytes : List Byte)
  deriving DecidableEq, Repr, Inhabited

/-- Sub-causes of ContractViolation (spec/60_exceptions.md R202). -/
inductive ContractCause where
  | illegalOp
  | reservedField
  | notOpen
  | alreadyOpen
  | countTooLarge
  | countZero
  | startRange
  deriving DecidableEq, Repr, Inhabited

/-- Sub-causes of TransportFailure (R203). -/
inductive TransportCause where
  | sendFailed
  | recvFailed
  | channelClosed
  | aborted
  | connectFailed
  deriving DecidableEq, Repr, Inhabited

/-- Sub-causes of MalformedReply (R204). -/
inductive MalformedCause where
  | short
  | badCrc
  deriving DecidableEq, Repr, Inhabited

/-- An error kind with its sub-cause (R201 to R205); TimeoutFailure has the one sub-cause DEADLINE. -/
inductive BlockError where
  | contractViolation (c : ContractCause)
  | transportFailure (c : TransportCause)
  | malformedReply (c : MalformedCause)
  | timeoutFailure
  deriving DecidableEq, Repr, Inhabited

/-- The whole state, plain data. -/
structure State where
  /-- `STATUS.BUSY` (R23). -/
  busy : Bool
  /-- `STATUS.DONE` (R24). -/
  done : Bool
  /-- `STATUS.ERR` (R25). -/
  err : Bool
  /-- `STATUS.ERR_KIND` (R25). -/
  errKind : BitVec 4
  /-- `STATUS.ERR_SUB` (R25). -/
  errSub : BitVec 4
  /-- `STATUS.LINK` (R26). -/
  link : Link
  /-- `STATUS.DCOUNT` (R27). -/
  dcount : BitVec 2
  /-- `DATA0` (R28): holds a value only while `DCOUNT` is at least 1. -/
  data0 : Word
  /-- `DATA1` (R28): holds a value only while `DCOUNT` is 2. -/
  data1 : Word
  /-- `RXLEN` (R29). -/
  rxLen : BitVec 4
  /-- `CRC_ACC` (R30). -/
  crcAcc : Word
  /-- `TXBUF` (R33). -/
  txBuf : Frame
  /-- `RXBUF`, 10 bytes (R34); a byte at or past `RXLEN` holds no value. -/
  rxBuf : List Byte
  /-- `PHASE` (R35). -/
  phase : Phase
  /-- `CUR` (R36). -/
  cur : Command
  /-- `T_MARK` (R37). -/
  tMark : Nat
  /-- The configuration registers (R31). -/
  cfg : Params
  /-- `now` (R38). -/
  now : Nat
  /-- The RX FIFO, head first (R39). -/
  rxFifo : List Byte
  /-- `rx_closed` (R39). -/
  rxClosed : Bool
  /-- `rx_error` (R39). -/
  rxError : Bool
  /-- The wire event log, oldest first (R40). -/
  wireLog : List WireEvent
  /-- Command words presented and not yet accepted, oldest first (spec/42_transactions.md R130;
  log entry 9). -/
  port : List CmdWord
  /-- The model's own: the number of the next draw (log entry 2). -/
  drawCount : Nat
  /-- The model's own: draws the environment has laid down for the coming steps (log entry 2). -/
  pending : List Draw
  deriving DecidableEq, Repr

/-- Why the machine stops. -/
inductive Fault where
  /-- Raised by a host read of `DATA0` or `DATA1` at an index at or above `DCOUNT` (R28, R43: "a fault in
  the model"). Safe: the spec gives such a word no value, and the model goes no further. -/
  | dataWordHoldsNoValue (r : HostReg)
  deriving DecidableEq, Repr

/-- Why an instruction has no meaning. -/
inductive Refusal where
  /-- Raised by an arm of `exec` whose instruction has no meaning yet; no arm does. Safe. -/
  | notModelled (mnemonic : String)
  deriving DecidableEq, Repr

/-- Right after reset, at the start of a run (R42). DESIGN CHOICE for what the spec says holds no value
or is unspecified: `data0`, `data1` (log entry 3), `txBuf`, `rxBuf`, `cur`, `tMark` (4), `now` (5),
`rxFifo`, `rxClosed`, `rxError` (6), `port` (9), `drawCount`, `pending` (2). -/
def State.reset : State where
  busy := false
  done := false
  err := false
  errKind := 0#4
  errSub := 0#4
  link := .unopened
  dcount := 0#2
  data0 := 0#16
  data1 := 0#16
  rxLen := 0#4
  crcAcc := 0xFFFF#16
  txBuf := ⟨0#8, 0#8, 0#8, 0#8, 0#8, 0#8, 0#8, 0#8⟩
  rxBuf := [0#8, 0#8, 0#8, 0#8, 0#8, 0#8, 0#8, 0#8, 0#8, 0#8]
  phase := .idle
  cur := ⟨0#8, 0#16, 0#16⟩
  tMark := 0
  cfg := Config.built
  now := 0
  rxFifo := []
  rxClosed := false
  rxError := false
  wireLog := []
  port := []
  drawCount := 0
  pending := []

end Sys2Proof.Machine
end

