-- ==== Sys2Proof/Machine/Flags.lean ====
section
/-!
DEFINITION. `STATUS` as the host reads it, and the error codes that stand in it (spec/10_state.md R22,
spec/60_exceptions.md R201 to R205).
-/

namespace Sys2Proof.Machine

/-- The code of `LINK` in `STATUS` (R22). -/
def Link.code : Link → BitVec 2
  | .unopened => 0#2
  | .opened => 1#2
  | .closed => 2#2

/-- The 16-bit `STATUS` word, bit 3 hardwired to 0 (R22). -/
def State.status (s : State) : Word :=
  s.dcount ++ s.link.code ++ s.errSub ++ s.errKind ++ 0#1 ++ BitVec.ofBool s.err ++
    BitVec.ofBool s.done ++ BitVec.ofBool s.busy

/-- ContractViolation sub-cause codes (R202). -/
def ContractCause.code : ContractCause → BitVec 4
  | .illegalOp => 1#4
  | .reservedField => 2#4
  | .notOpen => 3#4
  | .alreadyOpen => 4#4
  | .countTooLarge => 5#4
  | .countZero => 6#4
  | .startRange => 7#4

/-- TransportFailure sub-cause codes (R203). -/
def TransportCause.code : TransportCause → BitVec 4
  | .sendFailed => 1#4
  | .recvFailed => 2#4
  | .channelClosed => 3#4
  | .aborted => 4#4
  | .connectFailed => 5#4

/-- MalformedReply sub-cause codes (R204). -/
def MalformedCause.code : MalformedCause → BitVec 4
  | .short => 1#4
  | .badCrc => 2#4

/-- `ERR_KIND` codes (R201). -/
def BlockError.kind : BlockError → BitVec 4
  | .contractViolation _ => 1#4
  | .transportFailure _ => 2#4
  | .malformedReply _ => 3#4
  | .timeoutFailure => 4#4

/-- `ERR_SUB` codes (R202 to R205). -/
def BlockError.sub : BlockError → BitVec 4
  | .contractViolation c => c.code
  | .transportFailure c => c.code
  | .malformedReply c => c.code
  | .timeoutFailure => 1#4

end Sys2Proof.Machine
end

