-- ==== Sys2Proof/Machine/Crc.lean ====
section
/-!
DEFINITION. The CRC-16 generator as a pure function (spec/40_crc.md R100 to R103).
-/

namespace Sys2Proof.Machine

/-- One of the 8 iterations of `crc_step`: the low bit is tested before the shift and the XOR with
`0xA001` comes after it (R100). -/
def crcShift (r : Word) : Word :=
  if r.getLsbD 0 then (r >>> 1) ^^^ 0xA001#16 else r >>> 1

/-- `n` iterations of `crcShift`. -/
def crcShifts : Nat → Word → Word
  | 0, r => r
  | n + 1, r => crcShifts n (crcShift r)

/-- `crc_step(r, b)` (R100): the byte is XORed into the low 8 bits, then 8 iterations follow. -/
def crcStep (r : Word) (b : Byte) : Word :=
  crcShifts 8 (r ^^^ b.setWidth 16)

/-- The initial value of the CRC register, `CRC_INIT` of spec/00_scope.md R8. -/
def crcInitValue : Word := 0xFFFF#16

/-- The CRC register after the bytes `bs`, from `r`. -/
def crcFrom : Word → List Byte → Word
  | r, [] => r
  | r, b :: bs => crcFrom (crcStep r b) bs

/-- `crc16(bs)` (R101), for a sequence of any length. -/
def crc16 (bs : List Byte) : Word :=
  crcFrom crcInitValue bs

/-- The low byte `w[7:0]` (spec/00_scope.md R9). -/
def lowByte (w : Word) : Byte := w.setWidth 8

/-- The high byte `w[15:8]` (spec/00_scope.md R9). -/
def highByte (w : Word) : Byte := (w >>> 8).setWidth 8

/-- `computeChecksum(bs)`, the low byte first (R102). -/
def computeChecksum (bs : List Byte) : Byte × Byte :=
  (lowByte (crc16 bs), highByte (crc16 bs))

end Sys2Proof.Machine
end

