-- ==== Sys2Proof/Machine/Codec.lean ====
section
/-!
DEFINITION. The frame encoder and decoder (spec/41_frame_codec.md R110 to R115).
-/

namespace Sys2Proof.Machine

/-- `splitWord(w)` (R110): quotient and remainder by 256. -/
def splitWord (w : Word) : Byte × Byte :=
  (BitVec.ofNat 8 (w.toNat / 256), BitVec.ofNat 8 (w.toNat % 256))

/-- `hi * 256 + lo`, the value of a big-endian pair (R111, R115). -/
def joinWord (hi lo : Byte) : Word :=
  BitVec.ofNat 16 (hi.toNat * 256 + lo.toNat)

/-- `FC_WRITE` (spec/00_scope.md R8). -/
def fcWrite : Byte := 0x06#8

/-- `FC_READ` (spec/00_scope.md R8). -/
def fcRead : Byte := 0x03#8

/-- Six bytes and the checksum over them, low byte first (spec/30_encoding.md R75). -/
def sealFrame (addr fc f1hi f1lo f2hi f2lo : Byte) : Frame :=
  let c := computeChecksum [addr, fc, f1hi, f1lo, f2hi, f2lo]
  ⟨addr, fc, f1hi, f1lo, f2hi, f2lo, c.1, c.2⟩

/-- `buildWriteFrame(reg, val)` (R112). -/
def buildWriteFrame (devAddr : Byte) (reg val : Word) : Frame :=
  sealFrame devAddr fcWrite (splitWord reg).1 (splitWord reg).2 (splitWord val).1 (splitWord val).2

/-- `buildReadFrame(start, n)` (R113). -/
def buildReadFrame (devAddr start n : Byte) : Frame :=
  sealFrame devAddr fcRead 0x00#8 start 0x00#8 n

/-- The answers of `validateReadReply` (R114). -/
inductive ReplyCheck where
  | ok
  | short
  | badCrc
  deriving DecidableEq, Repr, Inhabited

/-- `MINLEN(n)` (spec/30_encoding.md R83). -/
def minReplyLen (checkCrc : Bool) (n : Nat) : Nat :=
  if checkCrc then 5 + 2 * n else 3 + 2 * n

/-- `validateReadReply(rx, k, n)` (R114): the length check is always made, the checksum check only
when `CHECK_REPLY_CRC = 1`. -/
def validateReadReply (checkCrc : Bool) (rx : List Byte) (k n : Nat) : ReplyCheck :=
  if k < minReplyLen checkCrc n then .short
  else if checkCrc = true ∧
      (rx.getD (3 + 2 * n) 0, rx.getD (4 + 2 * n) 0) ≠ computeChecksum (rx.take (3 + 2 * n)) then
    .badCrc
  else .ok

/-- Register value `i` of a read reply: `rx[3+2i] * 256 + rx[4+2i]` (R115). -/
def replyValue (rx : List Byte) (i : Nat) : Word :=
  joinWord (rx.getD (3 + 2 * i) 0) (rx.getD (4 + 2 * i) 0)

/-- `decodeReadReply(rx, n)` (R115). -/
def decodeReadReply (rx : List Byte) (n : Nat) : List Word :=
  (List.range n).map (replyValue rx)

end Sys2Proof.Machine
end

