-- ==== Sys2Proof/Machine/Opcodes.lean ====
section
/-!
DEFINITION. The operation codes (spec/30_encoding.md R71, R73).
-/

namespace Sys2Proof.Machine

/-- The operation codes of R71. -/
def assignedOps : List Byte := [0x01#8, 0x02#8, 0x03#8, 0x06#8, 0x10#8, 0x11#8]

/-- A reserved operation code: every value not in R71 (R73). -/
def isReservedOp (op : Byte) : Bool := !assignedOps.contains op

end Sys2Proof.Machine
end

