-- ==== Sys2Proof/WellFormed.lean ====
section
/-!
DEFINITION. Which instructions an encoding of the spec stands for: a reserved operation code is one that
spec/30_encoding.md R73 lists, and a frame carries the checksum of its first six bytes (R75) and, for a
read, a count of 1 or 2 (R77). A command with a non-zero reserved field is well formed: it is accepted
and has a result of its own (R74).
-/

namespace Sys2Proof

/-- The encoding-level check of one instruction. -/
def WellFormed : Instr → Bool
  | .connect _ _ => true
  | .close _ _ => true
  | .readRegs _ _ => true
  | .writeReg _ _ => true
  | .crcInit _ _ => true
  | .crcFeed _ _ _ => true
  | .frameWriteSingleRegister addr reg val crcLo crcHi =>
    decide ((Machine.buildWriteFrame addr reg val).crcLo = crcLo) &&
      decide ((Machine.buildWriteFrame addr reg val).crcHi = crcHi)
  | .frameReadRegisters addr start count crcLo crcHi =>
    (decide (count = 1#8) || decide (count = 2#8)) &&
      (decide ((Machine.buildReadFrame addr start count).crcLo = crcLo) &&
        decide ((Machine.buildReadFrame addr start count).crcHi = crcHi))
  | .reservedOp op _ _ => Machine.isReservedOp op

end Sys2Proof
end

