-- ==== Sys2Proof/Decode.lean ====
section
/-!
DEFINITION. The decoder and, after it, the encoder, both from spec/30_encoding.md R70 to R79.
A command word is never rejected: a reserved operation code is an instruction of its own (R73).
-/

namespace Sys2Proof

/-- `OP`, bits 39:32 (R70). -/
def opField (w : CmdWord) : Byte := w.extractLsb' 32 8

/-- `A`, bits 31:16 (R70). -/
def aField (w : CmdWord) : Word := w.extractLsb' 16 16

/-- `B`, bits 15:0 (R70). -/
def bField (w : CmdWord) : Word := w.extractLsb' 0 16

/-- The instruction of a command word (R71, R72, R73). -/
def decodeCommand (w : CmdWord) : Instr :=
  if opField w = 0x01#8 then .connect (aField w) (bField w)
  else if opField w = 0x02#8 then .close (aField w) (bField w)
  else if opField w = 0x03#8 then .readRegs (aField w) (bField w)
  else if opField w = 0x06#8 then .writeReg (aField w) (bField w)
  else if opField w = 0x10#8 then .crcInit (aField w) (bField w)
  else if opField w = 0x11#8 then
    .crcFeed (aField w) ((bField w).extractLsb' 8 8) ((bField w).extractLsb' 0 8)
  else .reservedOp (opField w) (aField w) (bField w)

/-- Why bytes are no encoding of the spec. -/
inductive DecodeError where
  /-- Neither the 5 bytes of a command word nor the 8 of a frame (R86). -/
  | wrongLength (n : Nat)
  /-- A frame whose function code is neither 0x06 nor 0x03 (R78). -/
  | functionCode (fc : Byte)
  /-- A read frame whose byte 2 is not 0x00 (R77). -/
  | startHigh (b : Byte)
  /-- A read frame whose byte 4 is not 0x00 (R77). -/
  | countHigh (b : Byte)
  deriving DecidableEq, Repr

/-- The instruction of an outgoing frame (R76, R77). -/
def decodeFrame (f : Frame) : Except DecodeError Instr :=
  if f.fc = Machine.fcWrite then
    .ok (.frameWriteSingleRegister f.addr (f.f1hi ++ f.f1lo) (f.f2hi ++ f.f2lo) f.crcLo f.crcHi)
  else if f.fc = Machine.fcRead then
    if f.f1hi ≠ 0x00#8 then .error (.startHigh f.f1hi)
    else if f.f2hi ≠ 0x00#8 then .error (.countHigh f.f2hi)
    else .ok (.frameReadRegisters f.addr f.f1lo f.f2lo f.crcLo f.crcHi)
  else .error (.functionCode f.fc)

/-- A frame's bytes, offset 0 first (R75). -/
def Frame.bytes (f : Frame) : List Byte :=
  [f.addr, f.fc, f.f1hi, f.f1lo, f.f2hi, f.f2lo, f.crcLo, f.crcHi]

/-- The frame of a 64-bit number, byte 0 in bits 63:56 (R79). -/
def Frame.ofWord (w : FrameWord) : Frame :=
  ⟨w.extractLsb' 56 8, w.extractLsb' 48 8, w.extractLsb' 40 8, w.extractLsb' 32 8,
    w.extractLsb' 24 8, w.extractLsb' 16 8, w.extractLsb' 8 8, w.extractLsb' 0 8⟩

/-- A command word from five bytes, `OP` first, as R70 writes it (`OP:A:B`).
DESIGN CHOICE (log entry 17): the spec gives the 40-bit word no byte order. -/
def cmdOfBytes (b0 b1 b2 b3 b4 : Byte) : CmdWord := b0 ++ b1 ++ b2 ++ b3 ++ b4

/-- The decoder on any bytes: 5 bytes are a command word, 8 a frame (R86), anything else is rejected. -/
def decode : List Byte → Except DecodeError Instr
  | [b0, b1, b2, b3, b4] => .ok (decodeCommand (cmdOfBytes b0 b1 b2 b3 b4))
  | [b0, b1, b2, b3, b4, b5, b6, b7] => decodeFrame ⟨b0, b1, b2, b3, b4, b5, b6, b7⟩
  | bs => .error (.wrongLength bs.length)

/-- The command a command instruction stands for; `none` for a frame (R70 to R73). -/
def Instr.command? : Instr → Option Command
  | .connect a b => some ⟨0x01#8, a, b⟩
  | .close a b => some ⟨0x02#8, a, b⟩
  | .readRegs start count => some ⟨0x03#8, start, count⟩
  | .writeReg reg val => some ⟨0x06#8, reg, val⟩
  | .crcInit a b => some ⟨0x10#8, a, b⟩
  | .crcFeed a bHi b => some ⟨0x11#8, a, bHi ++ b⟩
  | .frameWriteSingleRegister _ _ _ _ _ => none
  | .frameReadRegisters _ _ _ _ _ => none
  | .reservedOp op a b => some ⟨op, a, b⟩

/-- The 40-bit word of a command (R70). -/
def Command.word (c : Command) : CmdWord := c.op ++ c.a ++ c.b

/-- The frame a frame instruction stands for: R76 with each word split high byte first (R54), R77. -/
def writeFrameOf (addr : Byte) (reg val : Word) (crcLo crcHi : Byte) : Frame :=
  ⟨addr, Machine.fcWrite, reg.extractLsb' 8 8, reg.extractLsb' 0 8, val.extractLsb' 8 8,
    val.extractLsb' 0 8, crcLo, crcHi⟩

/-- The read frame of R77. -/
def readFrameOf (addr start count crcLo crcHi : Byte) : Frame :=
  ⟨addr, Machine.fcRead, 0x00#8, start, 0x00#8, count, crcLo, crcHi⟩

/-- The bytes of a command word, `OP` first (log entry 17). -/
def Command.bytes (c : Command) : List Byte :=
  [c.op, c.a.extractLsb' 8 8, c.a.extractLsb' 0 8, c.b.extractLsb' 8 8, c.b.extractLsb' 0 8]

/-- The encoder: the bytes of an instruction (R70 to R77). -/
def encode : Instr → List Byte
  | .connect a b => (Command.mk 0x01#8 a b).bytes
  | .close a b => (Command.mk 0x02#8 a b).bytes
  | .readRegs start count => (Command.mk 0x03#8 start count).bytes
  | .writeReg reg val => (Command.mk 0x06#8 reg val).bytes
  | .crcInit a b => (Command.mk 0x10#8 a b).bytes
  | .crcFeed a bHi b => (Command.mk 0x11#8 a (bHi ++ b)).bytes
  | .frameWriteSingleRegister addr reg val crcLo crcHi =>
    (writeFrameOf addr reg val crcLo crcHi).bytes
  | .frameReadRegisters addr start count crcLo crcHi =>
    (readFrameOf addr start count crcLo crcHi).bytes
  | .reservedOp op a b => (Command.mk op a b).bytes

/-- How many bytes an instruction has (R86). -/
def Instr.byteLength : Instr → Nat
  | .connect _ _ => 5
  | .close _ _ => 5
  | .readRegs _ _ => 5
  | .writeReg _ _ => 5
  | .crcInit _ _ => 5
  | .crcFeed _ _ _ => 5
  | .frameWriteSingleRegister _ _ _ _ _ => 8
  | .frameReadRegisters _ _ _ _ _ => 8
  | .reservedOp _ _ _ => 5

/-- The decoder on a table word: a row of at most 40 bits is a command word, a row of at most 64 bits
a frame, both numbered as spec/opcode_table.json numbers them (R70, R79). -/
def decodeTableWord (nbits w : Nat) : Option Instr :=
  if nbits ≤ 40 then some (decodeCommand (BitVec.ofNat 40 w))
  else if nbits ≤ 64 then
    match decodeFrame (Frame.ofWord (BitVec.ofNat 64 w)) with
    | .ok i => some i
    | .error _ => none
  else none

end Sys2Proof
end

