-- ==== Sys2Proof/Machine/Operands.lean ====
section
/-!
DEFINITION. The contract checks on a latched command (spec/30_encoding.md R72 to R74,
spec/42_transactions.md R132).
-/

namespace Sys2Proof.Machine

/-- Every field R72 marks "must be 0" is 0. -/
def reservedFieldsClear (c : Command) : Bool :=
  if c.op = 0x01#8 ∨ c.op = 0x02#8 ∨ c.op = 0x10#8 then
    decide (c.a = 0#16) && decide (c.b = 0#16)
  else if c.op = 0x11#8 then
    decide (c.a = 0#16) && decide (c.b.extractLsb' 8 8 = 0#8)
  else true

/-- `cmd.op` is a transaction, `WRITE_REG` or `READ_REGS`. -/
def isTransactionOp (op : Byte) : Bool := decide (op = 0x06#8) || decide (op = 0x03#8)

/-- `check(cmd)` (R132): the first failing row of its table, or `none` for `ok`. -/
def check (link : Link) (c : Command) : Option ContractCause :=
  if isReservedOp c.op then some .illegalOp
  else if !reservedFieldsClear c then some .reservedField
  else if (isTransactionOp c.op || decide (c.op = 0x02#8)) && decide (link ≠ .opened) then
    some .notOpen
  else if c.op = 0x01#8 ∧ link = .opened then some .alreadyOpen
  else if c.op = 0x03#8 ∧ Config.maxRegsPerRead < c.b.toNat then some .countTooLarge
  else if c.op = 0x03#8 ∧ c.b = 0#16 then some .countZero
  else if c.op = 0x03#8 ∧ 255 < c.a.toNat then some .startRange
  else none

end Sys2Proof.Machine
end

