-- ==== Sys2Proof/Machine/Ops.lean ====
section
/-!
DEFINITION. The named operations over the state: the pseudocode primitives of spec/00_scope.md R11
(`post_ok`, `raise`, `log`, `TxSend`), acceptance (spec/42_transactions.md R131), host reads
(spec/10_state.md R43), the transport's part (spec/60_exceptions.md R216) and the reset action
(spec/70_reset_and_hazards.md R240). `raise` is this hardware's one exception entry; nothing returns from
it (spec/60_exceptions.md R211): the next acceptance clears the result.
-/

namespace Sys2Proof.Machine

/-- The draw of the coming step: one the environment has laid down, else a free value (log entry 2). -/
def State.draw (s : State) : Draw :=
  match s.pending with
  | d :: _ => d
  | [] => Config.draw s.drawCount

/-- The draw of a step is used up when the step is over, whichever agent moved (log entry 2). -/
def State.drawn (s : State) : State :=
  { s with drawCount := s.drawCount + 1, pending := s.pending.tail }

/-- `post_ok(n, d0, d1)` (R11). -/
def State.postOk (s : State) (n : Nat) (d0 d1 : Word) : State :=
  { s with
    dcount := BitVec.ofNat 2 n
    data0 := if 1 ≤ n then d0 else s.data0
    data1 := if n = 2 then d1 else s.data1
    err := false, errKind := 0#4, errSub := 0#4
    done := true, busy := false, phase := .idle }

/-- `raise K(S)` (R11, spec/60_exceptions.md R200): the one way a command ends in an error. -/
def State.raise (s : State) (e : BlockError) : State :=
  { s with
    dcount := 0#2, err := true, errKind := e.kind, errSub := e.sub
    done := true, busy := false, phase := .idle }

/-- The part of R131 that comes before the check; also what clears a posted result (R211). -/
def State.accept (s : State) (c : Command) : State :=
  { s with
    cur := c, done := false, err := false, errKind := 0#4, errSub := 0#4
    dcount := 0#2, rxLen := 0#4 }

/-- `log(e)` (R11, R40). -/
def State.logEvent (s : State) (e : WireEvent) : State :=
  { s with wireLog := s.wireLog ++ [e] }

/-- A fresh channel: RX FIFO empty, `rx_closed` and `rx_error` 0 (R134). -/
def State.freshChannel (s : State) : State :=
  { s with rxFifo := [], rxClosed := false, rxError := false }

/-- The transport closes: "the channel and its FIFO are released" (R216; log entry 13). -/
def State.transportClose (s : State) : State := s.freshChannel

/-- The transport's answer to `connect(DEVICE_ID)`: a draw, whatever the identifier (R134, R216). -/
def transportConnect (_deviceId : Nat) (d : Draw) : Bool := d.connectOk

/-- The transport's answer to `TxSend(frame)`: a draw, whatever the frame (R139, R216). -/
def transportSend (_frame : Frame) (d : Draw) : Bool := d.sendOk

/-- The step of R131 for a command: held while a transaction is in flight (R130; log entry 10), otherwise
accepted, checked, and ended at once by a failing check (R133) or handed to its own action. -/
def State.command (s : State) (c : Command) (act : State → State) : State :=
  if s.phase ≠ .idle then s
  else
    match check s.link c with
    | some cause => (s.accept c).raise (.contractViolation cause)
    | none => act (s.accept c)

/-- `TXBUF <- fr ; BUSY <- 1 ; PHASE <- TX` (R137, R138). -/
def State.startTransaction (s : State) (fr : Frame) : State :=
  { s with txBuf := fr, busy := true, phase := .tx }

/-- The frame `fr`, which stands in `TXBUF`, and its event in the wire log (R139). -/
def State.logSend (s : State) (fr : Frame) (ok : Bool) : State :=
  { s with txBuf := fr, wireLog := s.wireLog ++ [.tx fr ok] }

/-- `T_MARK <- Now() ; PHASE <- RX` (R139). -/
def State.startReceive (s : State) : State :=
  { s with tMark := s.now, phase := .rx }

/-- The TX step of R139 for the frame `fr`: the transport takes it or refuses it. -/
def State.sendFrame (s : State) (fr : Frame) : State :=
  if transportSend fr s.draw then (s.logSend fr true).startReceive
  else (s.logSend fr false).raise (.transportFailure .sendFailed)

/-- `T_MARK <- Now() ; PHASE <- SETTLE` (R143, R144). -/
def State.startSettle (s : State) : State :=
  { s with tMark := s.now, phase := .settle }

/-- `Now() - T_MARK >= ms` (R142, R145; spec/60_exceptions.md R213). -/
def State.elapsed (s : State) (ms : Nat) : Bool := decide (ms ≤ s.now - s.tMark)

/-- A host read (R43). It changes no state; a data word at or above `DCOUNT` holds no value (R28). -/
def State.hostRead (s : State) : HostReg → Except Fault Word
  | .status => .ok s.status
  | .data0 => if 0 < s.dcount.toNat then .ok s.data0 else .error (.dataWordHoldsNoValue .data0)
  | .data1 => if 1 < s.dcount.toNat then .ok s.data1 else .error (.dataWordHoldsNoValue .data1)
  | .rxLen => .ok (s.rxLen.setWidth 16)
  | .crcAcc => .ok s.crcAcc

/-- The reset action (R240): block state as R42 says; the configuration, `now`, the wire log, the RX FIFO
and its flags are not changed (R42, R241, R242), nor is what the host presents (log entry 20). -/
def State.resetBlock (s : State) : State :=
  { State.reset with
    cfg := s.cfg, now := s.now, rxFifo := s.rxFifo, rxClosed := s.rxClosed, rxError := s.rxError
    wireLog := s.wireLog, port := s.port, drawCount := s.drawCount, pending := s.pending }

/-- The exact word `02:0000:0000` that aborts a transaction in flight (R130). -/
def closeWord : CmdWord := 0x0200000000#40

/-- What the block takes from the command port at its turn: in IDLE the oldest presented word, in flight a
presented `02:0000:0000` when the draw takes it (R130, R209; log entries 9 and 10). The answer is the word
and the state with that word no longer presented. -/
def State.fetchCommand (s : State) : Option (CmdWord × State) :=
  if s.phase = .idle then
    match s.port with
    | [] => none
    | w :: rest => some (w, { s with port := rest })
  else if closeWord ∈ s.port ∧ s.draw.abort = true then
    some (closeWord, { s with port := s.port.erase closeWord })
  else none

end Sys2Proof.Machine
end

