-- ==== Sys2Proof/Machine/Connection.lean ====
section
/-!
DEFINITION. CONNECT and CLOSE (spec/42_transactions.md R134 to R136).
-/

namespace Sys2Proof.Machine

/-- The body of CONNECT after acceptance and check (R134). -/
def connectAction (s : State) : State :=
  if transportConnect s.cfg.deviceId s.draw then
    ({ s.logEvent (.connect true) with link := .opened }.freshChannel).postOk 0 0#16 0#16
  else (s.logEvent (.connect false)).raise (.transportFailure .connectFailed)

/-- CONNECT (R134). -/
def execConnect (a b : Word) (s : State) : Host.Outcome State Fault Refusal :=
  .next (s.command ⟨0x01#8, a, b⟩ connectAction)

/-- The transport is closed, the event logged and `LINK` becomes `CLOSED` (R135, R136). -/
def State.closeLink (s : State) : State :=
  { s.transportClose.logEvent .close with link := .closed }

/-- The body of CLOSE in IDLE after acceptance and check (R135). -/
def closeAction (s : State) : State := s.closeLink.postOk 0 0#16 0#16

/-- CLOSE of a transaction in flight (R136): no acceptance actions, `CUR` keeps the transaction. -/
def abortAction (s : State) : State := s.closeLink.raise (.transportFailure .aborted)

/-- CLOSE (R135); in flight, the exact word aborts (R136) and any other CLOSE is held (R130). -/
def execClose (a b : Word) (s : State) : Host.Outcome State Fault Refusal :=
  .next (if s.phase ≠ .idle ∧ a = 0#16 ∧ b = 0#16 then abortAction s
    else s.command ⟨0x02#8, a, b⟩ closeAction)

end Sys2Proof.Machine
end

