-- ==== Sys2Proof/Machine/CrcCommands.lean ====
section
/-!
DEFINITION. CRC_INIT and CRC_FEED (spec/40_crc.md R104, R105).
-/

namespace Sys2Proof.Machine

/-- `CRC_ACC <- r ; post_ok(1, CRC_ACC, -)` (R104, R105). -/
def State.postCrc (s : State) (r : Word) : State := { s with crcAcc := r }.postOk 1 r 0#16

/-- CRC_INIT (R104). -/
def execCrcInit (a b : Word) (s : State) : Host.Outcome State Fault Refusal :=
  .next (s.command ⟨0x10#8, a, b⟩ fun t => t.postCrc crcInitValue)

/-- CRC_FEED (R105). -/
def execCrcFeed (a : Word) (bHi b : Byte) (s : State) : Host.Outcome State Fault Refusal :=
  .next (s.command ⟨0x11#8, a, bHi ++ b⟩ fun t => t.postCrc (crcStep t.crcAcc b))

end Sys2Proof.Machine
end

