-- ==== Sys2Proof/Machine/Frames.lean ====
section
/-!
DEFINITION. The two frame rows of the opcode table: the frame that stands in `TXBUF` is the instruction of
phase TX, and running it sends it (spec/42_transactions.md R139; log entry 11).
-/

namespace Sys2Proof.Machine

/-- A frame leaves the block in phase TX only (R139, R148); in any other phase nothing is sent and nothing
changes (log entry 11). -/
def State.runFrame (s : State) (fr : Frame) : State :=
  if s.phase = .tx then s.sendFrame fr else s

/-- FRAME_WRITE_SINGLE_REGISTER (spec/30_encoding.md R76, R139). -/
def execFrameWriteSingleRegister (addr : Byte) (reg val : Word) (crcLo crcHi : Byte) (s : State) :
    Host.Outcome State Fault Refusal :=
  .next (s.runFrame (writeFrameOf addr reg val crcLo crcHi))

/-- FRAME_READ_REGISTERS (spec/30_encoding.md R77, R139). -/
def execFrameReadRegisters (addr start count crcLo crcHi : Byte) (s : State) :
    Host.Outcome State Fault Refusal :=
  .next (s.runFrame (readFrameOf addr start count crcLo crcHi))

end Sys2Proof.Machine
end

