-- ==== Sys2Proof/Machine/Reserved.lean ====
section
/-!
DEFINITION. The reserved operation codes (spec/30_encoding.md R73).
-/

namespace Sys2Proof.Machine

/-- RESERVED_OP (R73): accepted, and ended by ContractViolation(ILLEGAL_OP) with no I/O. The check of R132
finds a reserved `OP` first; the action is never reached for one. -/
def execReservedOp (op : Byte) (a b : Word) (s : State) : Host.Outcome State Fault Refusal :=
  .next (s.command ⟨op, a, b⟩ fun t => t.raise (.contractViolation .illegalOp))

end Sys2Proof.Machine
end

