-- ==== Sys2Proof/Machine/Transactions.lean ====
section
/-!
DEFINITION. READ_REGS and WRITE_REG up to phase TX (spec/42_transactions.md R137, R138); the phases that
follow are in Machine/Phases.lean.
-/

namespace Sys2Proof.Machine

/-- The frame of the latched read: `buildReadFrame(CUR.A[7:0], CUR.B[7:0])` (R138). -/
def readRequest (s : State) : Frame :=
  buildReadFrame s.cfg.devAddr (lowByte s.cur.a) (lowByte s.cur.b)

/-- READ_REGS (R138). -/
def execReadRegs (start count : Word) (s : State) : Host.Outcome State Fault Refusal :=
  .next (s.command ⟨0x03#8, start, count⟩ fun t => t.startTransaction (readRequest t))

/-- The frame of the latched write: `buildWriteFrame(CUR.A, CUR.B)` (R137). -/
def writeRequest (s : State) : Frame := buildWriteFrame s.cfg.devAddr s.cur.a s.cur.b

/-- WRITE_REG (R137). -/
def execWriteReg (reg val : Word) (s : State) : Host.Outcome State Fault Refusal :=
  .next (s.command ⟨0x06#8, reg, val⟩ fun t => t.startTransaction (writeRequest t))

end Sys2Proof.Machine
end

