-- ==== Sys2Proof/Machine/Dispatch.lean ====
section
/-!
DEFINITION. One arm per instruction, each a direct call of its meaning.
-/

namespace Sys2Proof.Machine

def exec (i : Instr) (s : State) : Host.Outcome State Fault Refusal :=
  match i with
  | .connect a b => Sys2Proof.Machine.execConnect a b s
  | .close a b => Sys2Proof.Machine.execClose a b s
  | .readRegs start count => Sys2Proof.Machine.execReadRegs start count s
  | .writeReg reg val => Sys2Proof.Machine.execWriteReg reg val s
  | .crcInit a b => Sys2Proof.Machine.execCrcInit a b s
  | .crcFeed a bHi b => Sys2Proof.Machine.execCrcFeed a bHi b s
  | .frameWriteSingleRegister addr reg val crcLo crcHi => Sys2Proof.Machine.execFrameWriteSingleRegister addr reg val crcLo crcHi s
  | .frameReadRegisters addr start count crcLo crcHi => Sys2Proof.Machine.execFrameReadRegisters addr start count crcLo crcHi s
  | .reservedOp op a b => Sys2Proof.Machine.execReservedOp op a b s

end Sys2Proof.Machine
end

