-- ==== Sys2Proof/Machine/Phases.lean ====
section
/-!
DEFINITION. The phases after TX (spec/42_transactions.md R140 to R145).
-/

namespace Sys2Proof.Machine

/-- The steps of phase RX (R140, R141, R142). -/
inductive RxStep where
  | data
  | recvFailed
  | channelClosed
  | deadline
  deriving DecidableEq, Repr, Inhabited

/-- The deadline has passed; never with `INF` (R142). -/
def State.deadlinePassed (s : State) : Bool :=
  match s.cfg.readDeadlineMs with
  | none => false
  | some ms => s.elapsed ms

/-- When a step of phase RX is enabled (R140, R141, R142). -/
def State.rxEnabled (s : State) : RxStep → Bool
  | .data => !s.rxFifo.isEmpty
  | .recvFailed => s.rxError
  | .channelClosed => s.rxClosed && s.rxFifo.isEmpty
  | .deadline => s.deadlinePassed

/-- The enabled steps of phase RX. -/
def State.rxSteps (s : State) : List RxStep :=
  [RxStep.data, .recvFailed, .channelClosed, .deadline].filter s.rxEnabled

/-- How many bytes a receive returns: a draw with `1 <= k <= min(10, |FIFO|)` (R140). -/
def State.receiveLength (s : State) : Nat :=
  1 + s.draw.recvLen % min Config.replyBufLen s.rxFifo.length

/-- One receive of `k` bytes (R140); the bytes of `RXBUF` past them keep their old contents, which no rule
reads (R34; log entry 15). -/
def State.receive (s : State) (k : Nat) : State :=
  { s with
    rxFifo := s.rxFifo.drop k
    rxBuf := s.rxFifo.take k ++ s.rxBuf.drop k
    rxLen := BitVec.ofNat 4 k
    wireLog := s.wireLog ++ [.rx (s.rxFifo.take k)]
    phase := .decode }

/-- The effect of one step of phase RX (R140, R141, R142). -/
def State.rxStep (s : State) : RxStep → State
  | .data => s.receive s.receiveLength
  | .recvFailed => s.raise (.transportFailure .recvFailed)
  | .channelClosed => s.raise (.transportFailure .channelClosed)
  | .deadline => s.raise .timeoutFailure

/-- Phase RX: one of the enabled steps, drawn (R209); with none enabled the block waits (R142, R150). -/
def rxPhase (s : State) : State :=
  match s.rxSteps with
  | [] => s
  | first :: rest =>
    s.rxStep ((first :: rest).getD (s.draw.rxChoice % (first :: rest).length) first)

/-- Phase DECODE (R143, R144): a read reply is validated, a write reply is not interpreted. -/
def decodePhase (s : State) : State :=
  if s.cur.op = fcRead then
    match validateReadReply s.cfg.checkReplyCrc s.rxBuf s.rxLen.toNat s.cur.b.toNat with
    | .short => s.raise (.malformedReply .short)
    | .badCrc => s.raise (.malformedReply .badCrc)
    | .ok => s.startSettle
  else s.startSettle

/-- Phase SETTLE (R145): waits for the settle interval, then posts the result. -/
def settlePhase (s : State) : State :=
  if s.elapsed s.cfg.settleMs then
    if s.cur.op = fcRead then
      s.postOk s.cur.b.toNat ((decodeReadReply s.rxBuf s.cur.b.toNat).getD 0 0#16)
        ((decodeReadReply s.rxBuf s.cur.b.toNat).getD 1 0#16)
    else s.postOk 0 0#16 0#16
  else s

end Sys2Proof.Machine
end

