-- ==== Sys2Proof/Machine/Agents.lean ====
section
/-!
DEFINITION. The step of each of the four agents (spec/10_state.md R20).
-/

namespace Sys2Proof.Machine

/-- One move of the host (R20, R43, spec/70_reset_and_hazards.md R240). -/
def hostMove (m : HostMove) (s : State) : Host.Outcome State Fault Refusal :=
  match m with
  | .idle => .next s
  | .present w => .next { s with port := s.port ++ [w] }
  | .read r =>
    match s.hostRead r with
    | .ok _ => .next s
    | .error f => .fault f
  | .reset => .next s.resetBlock

/-- One move of the transport and device (spec/60_exceptions.md R216): none while `LINK` is not `OPEN`
(log entry 14). -/
def transportMove (m : TransportMove) (s : State) : State :=
  if s.link = .opened then
    match m with
    | .idle => s
    | .deliver bs => { s with rxFifo := s.rxFifo ++ bs }
    | .setError => { s with rxError := true }
    | .setClosed => { s with rxClosed := true }
  else s

/-- The clock's step `now <- now + d`, `d >= 1` (R38). -/
def clockMove (tick : Nat) (s : State) : State := { s with now := s.now + (tick + 1) }

/-- The block's own step in a phase: in IDLE it waits; in TX the frame in `TXBUF` is decoded and run
(log entry 11), and bytes that decode to no frame, which no run puts there, are sent all the same
(spec/42_transactions.md R139). -/
def phaseStep (s : State) : Host.Outcome State Fault Refusal :=
  match s.phase with
  | .idle => .next s
  | .tx =>
    match decodeFrame s.txBuf with
    | .ok i => exec i s
    | .error _ => .next (s.sendFrame s.txBuf)
  | .rx => .next (rxPhase s)
  | .decode => .next (decodePhase s)
  | .settle => .next (settlePhase s)

/-- The block's step: a command word it takes from the port is run, otherwise the phase's own step. -/
def blockMove (s : State) : Host.Outcome State Fault Refusal :=
  match s.fetchCommand with
  | some (w, t) => exec (decodeCommand w) t
  | none => phaseStep s

/-- The move of the agent the draw names. -/
def agentMove (s : State) : Host.Outcome State Fault Refusal :=
  match s.draw.agent with
  | .host => hostMove s.draw.hostMove s
  | .block => blockMove s
  | .transport => .next (transportMove s.draw.transportMove s)
  | .clock => .next (clockMove s.draw.tick s)

/-- What every step adds after the agent's move: its draw is used up (log entry 2). -/
def finishStep (o : Host.Outcome State Fault Refusal) : Host.Outcome State Fault Refusal :=
  match o with
  | .next t => .next t.drawn
  | .fault f => .fault f
  | .refused r => .refused r

/-- The state `s` with the block as the agent that moves next; every other part of the coming draw stays
as free as it was, but for a CLOSE already presented, which is not taken (log entry 18). -/
def State.blockNext (s : State) : State :=
  { s with pending := { s.draw with agent := .block, abort := false } :: s.pending.tail }

/-- A command word where the block, idle, takes its next command from. -/
def State.withCommandWord (s : State) (w : CmdWord) : State :=
  { s.blockNext with port := w :: s.port, phase := .idle, busy := false }

/-- A frame where the block, in phase TX, takes the frame it sends from. -/
def State.withFrame (s : State) (fr : Frame) : State :=
  { s.blockNext with txBuf := fr, phase := .tx, busy := true }

end Sys2Proof.Machine
end

