-- ==== Sys2Proof/Machine/Step.lean ====
section
/-!
DEFINITION. One step of the machine: one agent moves (spec/10_state.md R20), and the step's draw is used up.
-/

namespace Sys2Proof.Machine

/-- One step. -/
def step (s : State) : Host.Outcome State Fault Refusal := finishStep (agentMove s)

/-- `s` with the instruction `w` of the opcode table where the next step takes it from: a command word
(at most 40 bits) on the command port with the block idle, a frame (at most 64 bits) in `TXBUF` with the
block in phase TX; in both the block moves next (log entry 18). -/
def State.withFetchWord (s : State) (nbits w : Nat) : State :=
  if nbits ≤ 40 then s.withCommandWord (BitVec.ofNat 40 w)
  else s.withFrame (Frame.ofWord (BitVec.ofNat 64 w))

end Sys2Proof.Machine
end

