-- ==== Sys2Proof/Machine/Assembler.lean ====
section
/-!
DEFINITION. The spec's assembler syntax (spec/30_encoding.md R84), the register map (spec/20_memory.md R52)
and the host macros (R85) as lists of assembler lines. The block runs none of this: it is how a host writes
command words.
-/

namespace Sys2Proof.Machine

/-- One line of R84; `READ_REGS S` with no `N` has `none`. -/
inductive AsmLine where
  | connect
  | close
  | readRegs (start : Nat) (count : Option Nat)
  | writeReg (reg val : Nat)
  | crcInit
  | crcFeed (b : Nat)
  deriving DecidableEq, Repr, Inhabited

/-- A line's command; `none` is an assembly error: an operand that does not fit its field (R84). -/
def assemble : AsmLine → Option Command
  | .connect => some ⟨0x01#8, 0#16, 0#16⟩
  | .close => some ⟨0x02#8, 0#16, 0#16⟩
  | .readRegs start count =>
    let n := count.getD 1
    if start < 2 ^ 16 ∧ n < 2 ^ 16 then some ⟨0x03#8, BitVec.ofNat 16 start, BitVec.ofNat 16 n⟩
    else none
  | .writeReg reg val =>
    if reg < 2 ^ 16 ∧ val < 2 ^ 16 then some ⟨0x06#8, BitVec.ofNat 16 reg, BitVec.ofNat 16 val⟩
    else none
  | .crcInit => some ⟨0x10#8, 0#16, 0#16⟩
  | .crcFeed b => if b < 2 ^ 8 then some ⟨0x11#8, 0#16, BitVec.ofNat 16 b⟩ else none

/-- The value of a digit in a base of at most 16 (log entry 24). -/
def digitValue (base : Nat) (c : Char) : Option Nat :=
  let n := c.toNat
  let v := if 48 ≤ n ∧ n ≤ 57 then n - 48
    else if 97 ≤ n ∧ n ≤ 102 then n - 87
    else if 65 ≤ n ∧ n ≤ 70 then n - 55
    else base
  if v < base then some v else none

/-- Digits, most significant first, from the value `acc`. -/
def digitsValue (base : Nat) : Nat → List Char → Option Nat
  | acc, [] => some acc
  | acc, c :: cs =>
    match digitValue base c with
    | some v => digitsValue base (acc * base + v) cs
    | none => none

/-- A decimal or `0x`-hexadecimal number (R84). -/
def parseNumber : List Char → Option Nat
  | [] => none
  | '0' :: 'x' :: d :: ds => digitsValue 16 0 (d :: ds)
  | d :: ds => digitsValue 10 0 (d :: ds)

/-- A token put before the rest, unless it is empty. -/
def consToken (tok : List Char) (rest : List (List Char)) : List (List Char) :=
  if tok.isEmpty then rest else tok :: rest

/-- The tokens of a line: blanks separate, a comma is a token, `;` starts a comment (R84). -/
def tokens : List Char → List Char → List (List Char)
  | tok, [] => consToken tok []
  | tok, c :: cs =>
    if c = ';' then consToken tok []
    else if c = ' ' ∨ c = '\t' then consToken tok (tokens [] cs)
    else if c = ',' then consToken tok ([','] :: tokens [] cs)
    else tokens (tok ++ [c]) cs

/-- The lines with no operand (R84). -/
def parseBare (mnemonic : String) : Option AsmLine :=
  if mnemonic = "CONNECT" then some .connect
  else if mnemonic = "CLOSE" then some .close
  else if mnemonic = "CRC_INIT" then some .crcInit
  else none

/-- The lines with one operand (R84). -/
def parseUnary (mnemonic : String) (x : Nat) : Option AsmLine :=
  if mnemonic = "READ_REGS" then some (.readRegs x none)
  else if mnemonic = "CRC_FEED" then some (.crcFeed x)
  else none

/-- The lines with two operands (R84). -/
def parseBinary (mnemonic : String) (x y : Nat) : Option AsmLine :=
  if mnemonic = "READ_REGS" then some (.readRegs x (some y))
  else if mnemonic = "WRITE_REG" then some (.writeReg x y)
  else none

/-- One line of text with a command on it (R84). -/
def parseLine (text : List Char) : Option AsmLine :=
  match tokens [] text with
  | [m] => parseBare (String.ofList m)
  | [m, x] => (parseNumber x).bind (parseUnary (String.ofList m))
  | [m, x, [','], y] =>
    (parseNumber x).bind fun vx => (parseNumber y).bind fun vy => parseBinary (String.ofList m) vx vy
  | _ => none

/-- The device registers the source maps (spec/20_memory.md R52). -/
inductive DeviceRegister where
  | setVoltage
  | setCurrent
  | outputVoltage
  | outputCurrent
  | outputPower
  | inputVoltage
  | powerState
  deriving DecidableEq, Repr, Inhabited

/-- The register addresses (spec/20_memory.md R52). -/
def DeviceRegister.address : DeviceRegister → Nat
  | .setVoltage => 0
  | .setCurrent => 1
  | .outputVoltage => 2
  | .outputCurrent => 3
  | .outputPower => 4
  | .inputVoltage => 5
  | .powerState => 9

/-- The host macros (R85). A set-point macro takes the raw value: how the host rounds `v*100` or `a*1000`
is not in the source (log entry 25). The accessors issue no command. -/
inductive HostMacro where
  | refresh
  | setVoltage (raw : Nat)
  | setCurrent (raw : Nat)
  | setPowerState (on : Bool)
  | togglePowerState (cached : Bool)
  | accessor
  | connect
  | close
  deriving DecidableEq, Repr, Inhabited

/-- `refresh()`: three 2-register reads and one 1-register read, in strict sequence (R85). -/
def refreshLines : List AsmLine :=
  [.readRegs DeviceRegister.setVoltage.address (some 2),
    .readRegs DeviceRegister.outputVoltage.address (some 2),
    .readRegs DeviceRegister.outputPower.address (some 2),
    .readRegs DeviceRegister.powerState.address (some 1)]

/-- `setPowerState(on)` (R85). -/
def powerStateLines (on : Bool) : List AsmLine :=
  [.writeReg DeviceRegister.powerState.address (if on then 1 else 0)]

/-- The commands a host macro expands to (R85). -/
def HostMacro.lines : HostMacro → List AsmLine
  | .refresh => refreshLines
  | .setVoltage raw => .writeReg DeviceRegister.setVoltage.address raw :: refreshLines
  | .setCurrent raw => .writeReg DeviceRegister.setCurrent.address raw :: refreshLines
  | .setPowerState on => powerStateLines on
  | .togglePowerState cached => powerStateLines (!cached)
  | .accessor => []
  | .connect => [.connect]
  | .close => [.close]

end Sys2Proof.Machine
end

