-- ==== Sys2Proof/Safety.lean ====
section
/-!
DEFINITION. The terms claims are stated in: the invariants of the machine, which of them rules out the
states no run reaches, and what a posted contract violation is (spec/90_conflicts.md C8: a claim excludes
it by premise).
-/

namespace Sys2Proof.Machine

/-- No ContractViolation is posted (spec/90_conflicts.md C8, spec/93_implementation_defined.md I13). -/
def State.NoViolation (s : State) : Prop := s.err = true → s.errKind ≠ 1#4

/-- The posted codes are those of an error of spec/60_exceptions.md R201 to R205. -/
def PostedError (kind sub : BitVec 4) : Prop := ∃ e : BlockError, e.kind = kind ∧ e.sub = sub

/-- What `STATUS` always says (spec/10_state.md R22 to R25, R27). -/
def State.StatusOk (s : State) : Prop :=
  (s.busy = true ↔ s.phase ≠ .idle) ∧
  (s.dcount ≠ 3#2) ∧
  (s.err = false → s.errKind = 0#4 ∧ s.errSub = 0#4) ∧
  (s.err = true → s.done = true ∧ s.dcount = 0#2 ∧ PostedError s.errKind s.errSub) ∧
  (s.done = false → s.dcount = 0#2) ∧
  (s.busy = true → s.done = false)

/-- A command whose contract checks a transaction has passed (spec/42_transactions.md R132, R137, R138). -/
def RequestOk (c : Command) : Prop :=
  c.op = 0x06#8 ∨ (c.op = 0x03#8 ∧ c.a.toNat ≤ 255 ∧ (c.b = 1#16 ∨ c.b = 2#16))

/-- The frame of the latched transaction (R137, R138). -/
def requestFrame (s : State) : Frame :=
  if s.cur.op = 0x06#8 then buildWriteFrame s.cfg.devAddr s.cur.a s.cur.b
  else buildReadFrame s.cfg.devAddr (lowByte s.cur.a) (lowByte s.cur.b)

/-- What the internal state always says (spec/10_state.md R26, R29, R33 to R37). -/
def State.TransactionOk (s : State) : Prop :=
  s.rxBuf.length = 10 ∧
  s.rxLen.toNat ≤ 10 ∧
  s.tMark ≤ s.now ∧
  (s.phase ≠ .idle → s.link = .opened ∧ RequestOk s.cur ∧ s.txBuf = requestFrame s) ∧
  (s.phase = .tx ∨ s.phase = .rx → s.rxLen = 0#4) ∧
  (s.phase = .decode ∨ s.phase = .settle → 1 ≤ s.rxLen.toNat) ∧
  (s.phase = .settle → s.cur.op = 0x03#8 →
    validateReadReply s.cfg.checkReplyCrc s.rxBuf s.rxLen.toNat s.cur.b.toNat = .ok)

/-- The invariant of the machine: true at reset and kept by every step. -/
def State.Inv (s : State) : Prop := s.StatusOk ∧ s.TransactionOk

/-- A frame as spec/41_frame_codec.md R116 says every frame sent is. -/
def FrameValid (devAddr : Byte) (f : Frame) : Prop :=
  f.addr = devAddr ∧ (f.fc = 0x03#8 ∨ f.fc = 0x06#8) ∧
  f.crcLo = lowByte (crc16 [f.addr, f.fc, f.f1hi, f.f1lo, f.f2hi, f.f2lo]) ∧
  f.crcHi = highByte (crc16 [f.addr, f.fc, f.f1hi, f.f1lo, f.f2hi, f.f2lo])

/-- Every frame in the wire log is valid (R116). -/
def State.WireFramesOk (s : State) : Prop :=
  ∀ f ok, WireEvent.tx f ok ∈ s.wireLog → FrameValid s.cfg.devAddr f

/-- A receive stands directly after a frame that was sent, one receive for one frame, of 1 to 10 bytes
(spec/42_transactions.md R140, R147, R148). `sent` says that the event before was a frame sent. -/
def receivesFollowSends : Bool → List WireEvent → Bool
  | _, [] => true
  | sent, .rx bs :: es =>
    sent && (decide (1 ≤ bs.length) && (decide (bs.length ≤ 10) && receivesFollowSends false es))
  | _, .tx _ ok :: es => receivesFollowSends ok es
  | _, .connect _ :: es => receivesFollowSends false es
  | _, .close :: es => receivesFollowSends false es

/-- The order of the wire log (R148); in phase RX the last event is the frame that was sent. -/
def State.WireOrderOk (s : State) : Prop :=
  receivesFollowSends false s.wireLog = true ∧
  (s.phase = .rx → ∃ es f, s.wireLog = es ++ [.tx f true])

/-- The contract violation an instruction posts, read off its own row of spec/30_encoding.md R72 and
the table of spec/42_transactions.md R132; `none` where it is accepted and carried out. -/
def contractFailure (link : Link) : Instr → Option ContractCause
  | .connect a b =>
    if a ≠ 0#16 ∨ b ≠ 0#16 then some .reservedField
    else if link = .opened then some .alreadyOpen else none
  | .close a b =>
    if a ≠ 0#16 ∨ b ≠ 0#16 then some .reservedField
    else if link ≠ .opened then some .notOpen else none
  | .readRegs start count =>
    if link ≠ .opened then some .notOpen
    else if 2 < count.toNat then some .countTooLarge
    else if count.toNat = 0 then some .countZero
    else if 255 < start.toNat then some .startRange else none
  | .writeReg _ _ => if link ≠ .opened then some .notOpen else none
  | .crcInit a b => if a ≠ 0#16 ∨ b ≠ 0#16 then some .reservedField else none
  | .crcFeed a bHi _ => if a ≠ 0#16 ∨ bHi ≠ 0#8 then some .reservedField else none
  | .frameWriteSingleRegister _ _ _ _ _ => none
  | .frameReadRegisters _ _ _ _ _ => none
  | .reservedOp _ _ _ => some .illegalOp

/-- The block is to move, and it takes its phase's own step: it takes no command from the port. -/
def State.PhaseTurn (s : State) : Prop := s.draw.agent = .block ∧ s.fetchCommand = none

/-- The block is to move, and it takes a command of the port that decodes to `i`. -/
def State.TakesCommand (s : State) (i : Instr) : Prop :=
  s.draw.agent = .block ∧ ∃ w u, s.fetchCommand = some (w, u) ∧ decodeCommand w = i

/-- The host is to move, and it resets the block. -/
def State.TakesReset (s : State) : Prop :=
  s.draw.agent = .host ∧ s.draw.hostMove = .reset

/-- A complete reply to a read: three header bytes, the values high byte first, and the checksum of all of
them, low byte first (spec/30_encoding.md R81). -/
def replyOf (h0 h1 h2 : Byte) (vs : List Word) : List Byte :=
  let body := [h0, h1, h2] ++ vs.flatMap fun v => [highByte v, lowByte v]
  body ++ [lowByte (crc16 body), highByte (crc16 body)]

/-- Instructions run one after the other, stopping at the first that does not answer a next state. -/
def execAll : List Instr → State → Host.Outcome State Fault Refusal
  | [], s => .next s
  | i :: is, s =>
    match exec i s with
    | .next t => execAll is t
    | .fault f => .fault f
    | .refused r => .refused r

end Sys2Proof.Machine
end

