-- ==== Sys2Proof/Certificates/Slice0/Obligations.lean ====
section
/-!
DEFINITION. The statements for the provers.
-/

open Sys2Proof Sys2Proof.Machine

/-! ### The CRC generator and the frame codec -/

/-- R107: a sequence followed by its own checksum has the checksum 0, and so has every frame the codec
builds and every frame of a wire log that R116 holds for. -/
def Obligations.CrcResidueIsZero : Prop :=
  (∀ bs : List Byte, crc16 (bs ++ [lowByte (crc16 bs), highByte (crc16 bs)]) = 0#16) ∧
  (∀ dev reg val, crc16 (buildWriteFrame dev reg val).bytes = 0#16) ∧
  (∀ dev start n, crc16 (buildReadFrame dev start n).bytes = 0#16) ∧
  (∀ (s : State) (f : Frame) (ok : Bool), s.WireFramesOk → WireEvent.tx f ok ∈ s.wireLog →
    crc16 f.bytes = 0#16)

/-- R105 (corner cases): `CRC_INIT ; CRC_FEED b0 ; … ; CRC_FEED b(k-1)` leaves `CRC_ACC = crc16([b0, …])`,
with that value in `DATA0`. -/
def Obligations.FeedingBytesComputesCrcSixteen : Prop :=
  ∀ (s : State) (bs : List Byte), s.phase = .idle →
    ∃ t, execAll (.crcInit 0#16 0#16 :: bs.map fun b => .crcFeed 0#16 0#8 b) s = .next t ∧
      t.crcAcc = crc16 bs ∧ t.data0 = crc16 bs ∧ t.dcount = 1#2 ∧ t.err = false ∧
      t.phase = .idle ∧ t.wireLog = s.wireLog ∧ t.txBuf = s.txBuf ∧ t.link = s.link

/-- R111: `hi * 256 + lo = v`. -/
def Obligations.SplitWordRecombines : Prop :=
  ∀ v : Word, (splitWord v).1.toNat * 256 + (splitWord v).2.toNat = v.toNat

/-- R54, R55, R112, R113: the bytes of both frames, offset 0 first, whatever the device address. -/
def Obligations.BuiltFramesHaveTheWireLayout : Prop :=
  (∀ (dev : Byte) (reg val : Word),
    let h := [dev, 0x06#8, reg.extractLsb' 8 8, reg.extractLsb' 0 8, val.extractLsb' 8 8,
      val.extractLsb' 0 8]
    (buildWriteFrame dev reg val).bytes =
      h ++ [(crc16 h).extractLsb' 0 8, (crc16 h).extractLsb' 8 8]) ∧
  (∀ dev start n : Byte,
    let h := [dev, 0x03#8, 0x00#8, start, 0x00#8, n]
    (buildReadFrame dev start n).bytes =
      h ++ [(crc16 h).extractLsb' 0 8, (crc16 h).extractLsb' 8 8])

/-- R114, R83: the length is checked first and always, the two checksum bytes only when the check is on. -/
def Obligations.ReplyCheckFollowsLengthThenChecksum : Prop :=
  ∀ (chk : Bool) (rx : List Byte) (k n : Nat),
    let min := (if chk then 5 else 3) + 2 * n
    let sum := crc16 (rx.take (3 + 2 * n))
    let same := rx.getD (3 + 2 * n) 0 = lowByte sum ∧ rx.getD (4 + 2 * n) 0 = highByte sum
    (validateReadReply chk rx k n = .short ↔ k < min) ∧
    (validateReadReply chk rx k n = .badCrc ↔ min ≤ k ∧ chk = true ∧ ¬ same) ∧
    (validateReadReply chk rx k n = .ok ↔ min ≤ k ∧ (chk = true → same))

/-- R81, R114, R115: a complete reply, with any header and any bytes after it, passes the check and
decodes to its values. -/
def Obligations.CompleteReplyDecodesToItsValues : Prop :=
  ∀ (chk : Bool) (h0 h1 h2 : Byte) (vs : List Word) (tail : List Byte) (k : Nat),
    (replyOf h0 h1 h2 vs).length ≤ k →
    validateReadReply chk (replyOf h0 h1 h2 vs ++ tail) k vs.length = .ok ∧
      decodeReadReply (replyOf h0 h1 h2 vs ++ tail) vs.length = vs

/-! ### Encodings -/

/-- R70 to R77: decoding the encoding of a well-formed instruction gives it back. -/
def Obligations.DecodeOfEncode : Prop :=
  ∀ i : Instr, WellFormed i = true → decode (encode i) = .ok i

/-- R70 to R77: bytes that decode are the encoding of what they decode to, so no bit is dropped. -/
def Obligations.EncodeOfDecode : Prop :=
  ∀ (bs : List Byte) (i : Instr), decode bs = .ok i → encode i = bs

/-- R71, R73: exactly the operation codes R73 lists decode to a reserved operation. -/
def Obligations.ReservedOperationCodesAreThoseListed : Prop :=
  ∀ w : CmdWord,
    (∃ op a b, decodeCommand w = .reservedOp op a b) ↔
      (opField w = 0x00#8 ∨ opField w = 0x04#8 ∨ opField w = 0x05#8 ∨
        (0x07 ≤ (opField w).toNat ∧ (opField w).toNat ≤ 0x0F) ∨
        (0x12 ≤ (opField w).toNat ∧ (opField w).toNat ≤ 0xFF))

/-- R70, R71, R76, R77: words written out from the spec decode to what they stand for. -/
def Obligations.SpecWordsDecode : Prop :=
  decodeTableWord 40 0x0100000000 = some (.connect 0#16 0#16) ∧
  decodeTableWord 40 0x0200000000 = some (.close 0#16 0#16) ∧
  decodeTableWord 40 0x0300090001 = some (.readRegs 9#16 1#16) ∧
  decodeTableWord 40 0x06000004D2 = some (.writeReg 0#16 1234#16) ∧
  decodeTableWord 40 0x1100000001 = some (.crcFeed 0#16 0#8 1#8) ∧
  decodeTableWord 64 0x0106000004B08ABE =
    some (.frameWriteSingleRegister 0x01#8 0#16 1200#16 0x8A#8 0xBE#8) ∧
  decodeTableWord 64 0x010300000002C40B =
    some (.frameReadRegisters 0x01#8 0#8 2#8 0xC4#8 0x0B#8) ∧
  decodeTableWord 40 0xFFFFFFFFFF = some (.reservedOp 0xFF#8 0xFFFF#16 0xFFFF#16)

/-- R84: the word of an assembled line decodes to the line's instruction, with the count 1 where none is
written. -/
def Obligations.AssembledLinesDecode : Prop :=
  (∃ c, assemble .connect = some c ∧ c.word = 0x0100000000#40 ∧
    decodeCommand c.word = .connect 0#16 0#16) ∧
  (∃ c, assemble .close = some c ∧ c.word = 0x0200000000#40 ∧
    decodeCommand c.word = .close 0#16 0#16) ∧
  (∃ c, assemble .crcInit = some c ∧ c.word = 0x1000000000#40 ∧
    decodeCommand c.word = .crcInit 0#16 0#16) ∧
  (∀ start count, start < 65536 → count < 65536 →
    ∃ c, assemble (.readRegs start (some count)) = some c ∧
      decodeCommand c.word = .readRegs (BitVec.ofNat 16 start) (BitVec.ofNat 16 count)) ∧
  (∀ start, assemble (.readRegs start none) = assemble (.readRegs start (some 1))) ∧
  (∀ reg val, reg < 65536 → val < 65536 →
    ∃ c, assemble (.writeReg reg val) = some c ∧
      decodeCommand c.word = .writeReg (BitVec.ofNat 16 reg) (BitVec.ofNat 16 val)) ∧
  (∀ b, b < 256 → ∃ c, assemble (.crcFeed b) = some c ∧
    decodeCommand c.word = .crcFeed 0#16 0#8 (BitVec.ofNat 8 b)) ∧
  (∀ b, 256 ≤ b → assemble (.crcFeed b) = none) ∧
  (∀ start count, 65536 ≤ start ∨ 65536 ≤ count → assemble (.readRegs start (some count)) = none) ∧
  (∀ reg val, 65536 ≤ reg ∨ 65536 ≤ val → assemble (.writeReg reg val) = none)

/-! ### The commands: where each completes, with its whole next state -/

/-- R134: CONNECT, with every value of its operands and of `LINK`; in flight it is held. -/
def Obligations.ConnectOpensOrFails : Prop :=
  decodeCommand 0x0100000000#40 = .connect 0#16 0#16 ∧
  (∀ (s : State) (a b : Word), s.phase = .idle →
    exec (.connect a b) s = .next
      (if a ≠ 0#16 ∨ b ≠ 0#16 then
        { s with
          cur := ⟨0x01#8, a, b⟩
          done := true, busy := false, err := true, errKind := 1#4, errSub := 2#4
          dcount := 0#2, rxLen := 0#4 }
      else if s.link = .opened then
        { s with
          cur := ⟨0x01#8, a, b⟩
          done := true, busy := false, err := true, errKind := 1#4, errSub := 4#4
          dcount := 0#2, rxLen := 0#4 }
      else if s.draw.connectOk then
        { s with
          cur := ⟨0x01#8, a, b⟩, link := .opened
          rxFifo := [], rxClosed := false, rxError := false
          wireLog := s.wireLog ++ [.connect true]
          done := true, busy := false, err := false, errKind := 0#4, errSub := 0#4
          dcount := 0#2, rxLen := 0#4 }
      else
        { s with
          cur := ⟨0x01#8, a, b⟩
          wireLog := s.wireLog ++ [.connect false]
          done := true, busy := false, err := true, errKind := 2#4, errSub := 5#4
          dcount := 0#2, rxLen := 0#4 })) ∧
  (∀ (s : State) (a b : Word), s.phase ≠ .idle → exec (.connect a b) s = .next s)

/-- R135: CLOSE from IDLE with the link open. That the FIFO and its flags are emptied here is the model's
reading of R216 (log entry 13). -/
def Obligations.CloseFromIdleClosesTheLink : Prop :=
  ∀ s : State, s.phase = .idle → s.link = .opened →
    exec (.close 0#16 0#16) s = .next
      { s with
        cur := ⟨0x02#8, 0#16, 0#16⟩, link := .closed
        rxFifo := [], rxClosed := false, rxError := false
        wireLog := s.wireLog ++ [.close]
        done := true, busy := false, err := false, errKind := 0#4, errSub := 0#4
        dcount := 0#2, rxLen := 0#4 }

/-- R136: CLOSE in flight aborts, and leaves `CUR`, `RXLEN` and the data words as they were. That the FIFO
and its flags are emptied here is the model's reading of R216 (log entry 13). -/
def Obligations.CloseInFlightAborts : Prop :=
  ∀ s : State, s.phase ≠ .idle →
    exec (.close 0#16 0#16) s = .next
      { s with
        link := .closed, rxFifo := [], rxClosed := false, rxError := false
        wireLog := s.wireLog ++ [.close]
        phase := .idle
        done := true, busy := false, err := true, errKind := 2#4, errSub := 4#4
        dcount := 0#2 }

/-- R137: WRITE_REG of any address and value puts its frame in `TXBUF` and enters phase TX. -/
def Obligations.WriteRegStartsATransaction : Prop :=
  ∀ (s : State) (reg val : Word), s.phase = .idle → s.link = .opened →
    exec (.writeReg reg val) s = .next
      { s with
        cur := ⟨0x06#8, reg, val⟩, txBuf := buildWriteFrame s.cfg.devAddr reg val
        busy := true, phase := .tx
        done := false, err := false, errKind := 0#4, errSub := 0#4, dcount := 0#2, rxLen := 0#4 }

/-- R138: READ_REGS of 1 or 2 registers from a start of at most 255 puts its frame in `TXBUF` and enters
phase TX. -/
def Obligations.ReadRegsStartsATransaction : Prop :=
  ∀ (s : State) (start count : Word), s.phase = .idle → s.link = .opened →
    1 ≤ count.toNat → count.toNat ≤ 2 → start.toNat ≤ 255 →
    exec (.readRegs start count) s = .next
      { s with
        cur := ⟨0x03#8, start, count⟩
        txBuf := buildReadFrame s.cfg.devAddr (start.extractLsb' 0 8) (count.extractLsb' 0 8)
        busy := true, phase := .tx
        done := false, err := false, errKind := 0#4, errSub := 0#4, dcount := 0#2, rxLen := 0#4 }

/-- R104: CRC_INIT, with every value of its operands; in flight it is held. -/
def Obligations.CrcInitLoadsAllOnes : Prop :=
  decodeCommand 0x1000000000#40 = .crcInit 0#16 0#16 ∧
  (∀ (s : State) (a b : Word), s.phase ≠ .idle → exec (.crcInit a b) s = .next s) ∧
  ∀ (s : State) (a b : Word), s.phase = .idle →
    exec (.crcInit a b) s = .next
      (if a = 0#16 ∧ b = 0#16 then
        { s with
          cur := ⟨0x10#8, a, b⟩, crcAcc := 0xFFFF#16, data0 := 0xFFFF#16
          done := true, busy := false, err := false, errKind := 0#4, errSub := 0#4
          dcount := 1#2, rxLen := 0#4 }
      else
        { s with
          cur := ⟨0x10#8, a, b⟩
          done := true, busy := false, err := true, errKind := 1#4, errSub := 2#4
          dcount := 0#2, rxLen := 0#4 })

/-- R105: CRC_FEED, with every value of its operands. -/
def Obligations.CrcFeedAdvancesTheAccumulator : Prop :=
  ∀ (s : State) (a : Word) (bHi b : Byte), s.phase = .idle →
    exec (.crcFeed a bHi b) s = .next
      (if a = 0#16 ∧ bHi = 0#8 then
        { s with
          cur := ⟨0x11#8, a, bHi ++ b⟩, crcAcc := crcStep s.crcAcc b, data0 := crcStep s.crcAcc b
          done := true, busy := false, err := false, errKind := 0#4, errSub := 0#4
          dcount := 1#2, rxLen := 0#4 }
      else
        { s with
          cur := ⟨0x11#8, a, bHi ++ b⟩
          done := true, busy := false, err := true, errKind := 1#4, errSub := 2#4
          dcount := 0#2, rxLen := 0#4 })

/-- R73: a reserved operation code is accepted and fails at once, with no I/O. -/
def Obligations.ReservedOperationPostsIllegalOp : Prop :=
  ∀ (s : State) (op : Byte) (a b : Word), s.phase = .idle →
    (op = 0x00#8 ∨ op = 0x04#8 ∨ op = 0x05#8 ∨ (0x07 ≤ op.toNat ∧ op.toNat ≤ 0x0F) ∨
      (0x12 ≤ op.toNat ∧ op.toNat ≤ 0xFF)) →
    exec (.reservedOp op a b) s = .next
      { s with
        cur := ⟨op, a, b⟩
        done := true, busy := false, err := true, errKind := 1#4, errSub := 1#4
        dcount := 0#2, rxLen := 0#4 }

/-- R76, R139: the write frame runs in phase TX by being sent. -/
def Obligations.WriteFrameIsSent : Prop :=
  ∀ (s : State) (addr : Byte) (reg val : Word) (lo hi : Byte), s.phase = .tx →
    let f : Frame := ⟨addr, 0x06#8, reg.extractLsb' 8 8, reg.extractLsb' 0 8, val.extractLsb' 8 8,
      val.extractLsb' 0 8, lo, hi⟩
    exec (.frameWriteSingleRegister addr reg val lo hi) s = .next
      (if s.draw.sendOk then
        { s with
          txBuf := f, wireLog := s.wireLog ++ [.tx f true], tMark := s.now, phase := .rx }
      else
        { s with
          txBuf := f, wireLog := s.wireLog ++ [.tx f false], phase := .idle
          done := true, busy := false, err := true, errKind := 2#4, errSub := 1#4, dcount := 0#2 })

/-- R77, R139: the read frame runs in phase TX by being sent. -/
def Obligations.ReadFrameIsSent : Prop :=
  ∀ (s : State) (addr start count lo hi : Byte), s.phase = .tx →
    let f : Frame := ⟨addr, 0x03#8, 0x00#8, start, 0x00#8, count, lo, hi⟩
    exec (.frameReadRegisters addr start count lo hi) s = .next
      (if s.draw.sendOk then
        { s with
          txBuf := f, wireLog := s.wireLog ++ [.tx f true], tMark := s.now, phase := .rx }
      else
        { s with
          txBuf := f, wireLog := s.wireLog ++ [.tx f false], phase := .idle
          done := true, busy := false, err := true, errKind := 2#4, errSub := 1#4, dcount := 0#2 })

/-- R132: the check returns the first failing row of its table, for every command and every link state. -/
def Obligations.ContractCheckFollowsItsTable : Prop :=
  ∀ (link : Link) (i : Instr) (c : Command), WellFormed i = true → i.command? = some c →
    check link c = contractFailure link i

/-- R133: a command that fails its check ends in its acceptance step and changes nothing but `CUR`, the
posted result and `RXLEN`. -/
def Obligations.FailedCheckDoesNoWork : Prop :=
  ∀ (s : State) (i : Instr) (c : Command) (cause : ContractCause), s.phase = .idle →
    WellFormed i = true → i.command? = some c → contractFailure s.link i = some cause →
    exec i s = .next
      { s with
        cur := c, done := true, busy := false, err := true, errKind := 1#4, errSub := cause.code
        dcount := 0#2, rxLen := 0#4 }

/-- R130: any command but the exact CLOSE is held while a transaction is in flight. That a frame outside
phase TX changes nothing either is the model's choice (log entry 11). -/
def Obligations.CommandInFlightChangesNothing : Prop :=
  (∀ (s : State) (i : Instr) (c : Command), s.phase ≠ .idle → i.command? = some c →
    i ≠ .close 0#16 0#16 → exec i s = .next s) ∧
  (∀ (s : State) (i : Instr), s.phase ≠ .tx → i.command? = none → exec i s = .next s)

/-! ### The step -/

/-- R130, R131: in IDLE the block runs the oldest presented word; around it the step takes the word off the
port and uses up its draw (log entries 2 and 9). -/
def Obligations.StepRunsThePresentedCommand : Prop :=
  ∀ (s : State) (w : CmdWord) (rest : List CmdWord),
    s.draw.agent = .block → s.phase = .idle → s.port = w :: rest →
    step s = match exec (decodeCommand w) { s with port := rest } with
      | .next t => .next { t with drawCount := t.drawCount + 1, pending := t.pending.tail }
      | .fault f => .fault f
      | .refused r => .refused r

/-- R139 (log entry 11): in phase TX the block runs the frame in `TXBUF`; around it the step uses up its
draw. -/
def Obligations.StepRunsTheFrameInTxbuf : Prop :=
  ∀ (s : State) (i : Instr), s.PhaseTurn → s.phase = .tx → decodeFrame s.txBuf = .ok i →
    step s = match exec i s with
      | .next t => .next { t with drawCount := t.drawCount + 1, pending := t.pending.tail }
      | .fault f => .fault f
      | .refused r => .refused r

/-- R136, R209: a presented CLOSE may be taken in any phase of a transaction; every other presented word
stays presented. That a CLOSE presented behind a held word is taken before it is the model's choice (log
entry 9), and that the FIFO and its flags are emptied is its reading of R216 (log entry 13). -/
def Obligations.StepTakesAPresentedClose : Prop :=
  ∀ s : State, s.draw.agent = .block → s.phase ≠ .idle → 0x0200000000#40 ∈ s.port →
    s.draw.abort = true →
    step s = .next
      { s with
        port := s.port.erase 0x0200000000#40
        link := .closed, rxFifo := [], rxClosed := false, rxError := false
        wireLog := s.wireLog ++ [.close]
        phase := .idle
        done := true, busy := false, err := true, errKind := 2#4, errSub := 4#4, dcount := 0#2
        drawCount := s.drawCount + 1, pending := s.pending.tail }

/-- R130: a step of the block in flight leaves every presented word presented, but for one it takes as
CLOSE. The list of presented words is the model's (log entry 9). -/
def Obligations.HeldWordsStayPresented : Prop :=
  ∀ s t : State, s.draw.agent = .block → s.phase ≠ .idle → step s = .next t →
    t.port = s.port ∨ (t.port = s.port.erase 0x0200000000#40 ∧ t.link = .closed ∧ t.phase = .idle)

/-- R139: the TX step, whatever bytes stand in `TXBUF`. -/
def Obligations.TxPhaseSendsTxbuf : Prop :=
  ∀ s : State, s.PhaseTurn → s.phase = .tx →
    step s = .next
      (if s.draw.sendOk then
        { s with
          wireLog := s.wireLog ++ [.tx s.txBuf true], tMark := s.now, phase := .rx
          drawCount := s.drawCount + 1, pending := s.pending.tail }
      else
        { s with
          wireLog := s.wireLog ++ [.tx s.txBuf false], phase := .idle
          done := true, busy := false, err := true, errKind := 2#4, errSub := 1#4, dcount := 0#2
          drawCount := s.drawCount + 1, pending := s.pending.tail })

/-- R65: a receive takes a prefix of the FIFO, in order, and logs what it took. -/
def Obligations.ReceiveTakesAPrefixOfTheFifo : Prop :=
  ∀ s t : State, s.phase = .rx → step s = .next t → t.phase = .decode →
    ∃ bs, s.rxFifo = bs ++ t.rxFifo ∧ 1 ≤ bs.length ∧ bs.length ≤ 10 ∧
      t.wireLog = s.wireLog ++ [.rx bs] ∧ t.rxLen.toNat = bs.length ∧ t.rxBuf.take bs.length = bs

/-- R140: every length from 1 to `min(10, |FIFO|)` may be received. -/
def Obligations.EveryReceiveLengthMayHappen : Prop :=
  ∀ (s : State) (k : Nat), s.phase = .rx → s.port = [] → 1 ≤ k → k ≤ 10 → k ≤ s.rxFifo.length →
    ∃ d : Draw, step { s with pending := [d] } = .next
      { s with
        rxFifo := s.rxFifo.drop k, rxBuf := s.rxFifo.take k ++ s.rxBuf.drop k
        rxLen := BitVec.ofNat 4 k, wireLog := s.wireLog ++ [.rx (s.rxFifo.take k)], phase := .decode
        drawCount := s.drawCount + 1, pending := [] }

/-- R141, R142, R209: a receive error, a closed channel with an empty FIFO, and a deadline that has passed may
each be taken whenever they hold, whatever else is enabled. -/
def Obligations.EveryEnabledReceiveFailureMayBeTaken : Prop :=
  ∀ (s : State) (kind sub : BitVec 4), s.phase = .rx → s.port = [] →
    ((s.rxError = true ∧ kind = 2#4 ∧ sub = 2#4) ∨
      (s.rxClosed = true ∧ s.rxFifo = [] ∧ kind = 2#4 ∧ sub = 3#4) ∨
      ((∃ ms, s.cfg.readDeadlineMs = some ms ∧ ms ≤ s.now - s.tMark) ∧ kind = 4#4 ∧ sub = 1#4)) →
    ∃ d : Draw, step { s with pending := [d] } = .next
      { s with
        phase := .idle, done := true, busy := false, err := true, errKind := kind, errSub := sub
        dcount := 0#2, drawCount := s.drawCount + 1, pending := [] }

/-- R142: no timeout before the deadline, and none with `INF`. -/
def Obligations.TimeoutIsNeverEarly : Prop :=
  ∀ s t : State, s.done = false → step s = .next t → t.done = true → t.errKind = 4#4 →
    s.phase = .rx ∧ ∃ ms, s.cfg.readDeadlineMs = some ms ∧ ms ≤ s.now - s.tMark

/-- R150: with no deadline, no byte and no failure of the transport, the block stays in RX; only CLOSE or
reset leaves it. What keeps it there holds again after any step that is no CLOSE, no reset and no step of
the transport, so the run is infinite. -/
def Obligations.SilentDeviceHangsTheReceive : Prop :=
  ∀ s : State, s.phase = .rx → s.cfg.readDeadlineMs = none → s.rxFifo = [] → s.rxError = false →
    s.rxClosed = false →
    (s.PhaseTurn →
      step s = .next { s with drawCount := s.drawCount + 1, pending := s.pending.tail }) ∧
    (∀ t, step s = .next t → t.phase ≠ .rx → s.TakesCommand (.close 0#16 0#16) ∨ s.TakesReset) ∧
    (∀ t, step s = .next t → s.draw.agent ≠ .transport →
      s.TakesCommand (.close 0#16 0#16) ∨ s.TakesReset ∨
        (t.phase = .rx ∧ t.cfg.readDeadlineMs = none ∧ t.rxFifo = [] ∧ t.rxError = false ∧
          t.rxClosed = false))

/-- R143: DECODE of a write does not look at the reply. -/
def Obligations.DecodeOfAWriteStartsTheSettle : Prop :=
  ∀ s : State, s.PhaseTurn → s.phase = .decode → s.cur.op = 0x06#8 →
    step s = .next
      { s with
        tMark := s.now, phase := .settle
        drawCount := s.drawCount + 1, pending := s.pending.tail }

/-- R144: DECODE of a read posts MalformedReply at once or starts the settle interval. -/
def Obligations.DecodeOfAReadChecksTheReply : Prop :=
  ∀ s : State, s.PhaseTurn → s.phase = .decode → s.cur.op = 0x03#8 →
    step s = .next
      (match validateReadReply s.cfg.checkReplyCrc s.rxBuf s.rxLen.toNat s.cur.b.toNat with
      | .short =>
        { s with
          phase := .idle, done := true, busy := false, err := true, errKind := 3#4, errSub := 1#4
          dcount := 0#2, drawCount := s.drawCount + 1, pending := s.pending.tail }
      | .badCrc =>
        { s with
          phase := .idle, done := true, busy := false, err := true, errKind := 3#4, errSub := 2#4
          dcount := 0#2, drawCount := s.drawCount + 1, pending := s.pending.tail }
      | .ok =>
        { s with
          tMark := s.now, phase := .settle
          drawCount := s.drawCount + 1, pending := s.pending.tail })

/-- R145: SETTLE waits for the interval and then posts the result; a read posts its one or two values. -/
def Obligations.SettleWaitsThenPosts : Prop :=
  ∀ s : State, s.PhaseTurn → s.phase = .settle → RequestOk s.cur →
    step s = .next
      (if s.now - s.tMark < s.cfg.settleMs then
        { s with drawCount := s.drawCount + 1, pending := s.pending.tail }
      else if s.cur.op = 0x03#8 then
        { s with
          data0 := joinWord (s.rxBuf.getD 3 0) (s.rxBuf.getD 4 0)
          data1 := if s.cur.b = 2#16 then joinWord (s.rxBuf.getD 5 0) (s.rxBuf.getD 6 0) else s.data1
          dcount := if s.cur.b = 2#16 then 2#2 else 1#2
          phase := .idle, done := true, busy := false, err := false, errKind := 0#4, errSub := 0#4
          drawCount := s.drawCount + 1, pending := s.pending.tail }
      else
        { s with
          dcount := 0#2
          phase := .idle, done := true, busy := false, err := false, errKind := 0#4, errSub := 0#4
          drawCount := s.drawCount + 1, pending := s.pending.tail })

/-- R62, R244: no transaction posts success before the settle interval has passed since its reply was
processed. -/
def Obligations.SuccessIsNeverPostedBeforeTheSettle : Prop :=
  ∀ s t : State, s.phase ≠ .idle → s.done = false → step s = .next t → t.done = true → t.err = false →
    s.phase = .settle ∧ s.cfg.settleMs ≤ s.now - s.tMark

/-! ### Host, transport, clock, reset -/

/-- R22: the bits of `STATUS`. -/
def Obligations.StatusWordHasTheSpecLayout : Prop :=
  ∀ s : State,
    s.status.getLsbD 0 = s.busy ∧ s.status.getLsbD 1 = s.done ∧ s.status.getLsbD 2 = s.err ∧
    s.status.getLsbD 3 = false ∧ s.status.extractLsb' 4 4 = s.errKind ∧
    s.status.extractLsb' 8 4 = s.errSub ∧ s.status.extractLsb' 14 2 = s.dcount ∧
    s.status.extractLsb' 12 2 = (match s.link with
      | .unopened => 0#2
      | .opened => 1#2
      | .closed => 2#2)

/-- R43: a host read gives the register's value in every phase and changes no state; a data word at or above
`DCOUNT` is a fault. -/
def Obligations.HostReadsChangeNothing : Prop :=
  ∀ (s : State) (r : HostReg), s.draw.agent = .host → s.draw.hostMove = .read r →
    (s.hostRead r = match r with
      | .status => .ok s.status
      | .rxLen => .ok (s.rxLen.setWidth 16)
      | .crcAcc => .ok s.crcAcc
      | .data0 => if s.dcount = 0#2 then .error (.dataWordHoldsNoValue .data0) else .ok s.data0
      | .data1 => if s.dcount = 0#2 ∨ s.dcount = 1#2 then .error (.dataWordHoldsNoValue .data1)
          else .ok s.data1) ∧
    (∀ v, s.hostRead r = .ok v →
      step s = .next { s with drawCount := s.drawCount + 1, pending := s.pending.tail }) ∧
    (∀ f, s.hostRead r = .error f → step s = .fault f)

/-- R242: reset does not change `now` or the wire event log. -/
def Obligations.ResetKeepsTimeAndLog : Prop :=
  ∀ s t : State, s.TakesReset → step s = .next t → t.now = s.now ∧ t.wireLog = s.wireLog

/-- R42, R240, R241: what a reset leaves in the block, and what it does not touch. Where R42 says "no value"
the model's reset values stand (log entries 3 and 4); the statement says nothing of them but that the host
cannot read the data words. -/
def Obligations.ResetPutsTheBlockInIdle : Prop :=
  ∀ s : State, s.TakesReset → ∃ t, step s = .next t ∧
    t.phase = .idle ∧ t.status = 0#16 ∧ t.link = .unopened ∧ t.rxLen = 0#4 ∧ t.crcAcc = 0xFFFF#16 ∧
    t.hostRead .data0 = .error (.dataWordHoldsNoValue .data0) ∧
    t.hostRead .data1 = .error (.dataWordHoldsNoValue .data1) ∧
    t.cfg = s.cfg ∧ t.now = s.now ∧ t.wireLog = s.wireLog ∧
    t.rxFifo = s.rxFifo ∧ t.rxClosed = s.rxClosed ∧ t.rxError = s.rxError

/-- R216, R39: with the link open the transport's own moves append the delivered bytes to the FIFO, set
`rx_error` or set `rx_closed`, and touch nothing else; with the link not open they change nothing. -/
def Obligations.TransportMovesTouchOnlyItsChannel : Prop :=
  ∀ s : State, s.draw.agent = .transport →
    ∃ u, step s = .next { u with drawCount := s.drawCount + 1, pending := s.pending.tail } ∧
      (s.link ≠ .opened → u = s) ∧
      (s.draw.transportMove = .idle → u = s) ∧
      (s.link = .opened →
        (∀ bs, s.draw.transportMove = .deliver bs → u = { s with rxFifo := s.rxFifo ++ bs }) ∧
        (s.draw.transportMove = .setError → u = { s with rxError := true }) ∧
        (s.draw.transportMove = .setClosed → u = { s with rxClosed := true }))

/-! ### Rules of the whole machine -/

/-- The invariant of the status word and of the transaction in flight holds at the start of a run. R42 gives
`T_MARK` and `RXBUF` no value and R38 leaves `now` open: the clauses `T_MARK <= now` and the ten bytes of
`RXBUF` rest on the model's reset values (log entries 4 and 5). -/
def Obligations.ResetMeetsTheInvariant : Prop :=
  State.reset.Inv ∧ State.reset.WireFramesOk ∧ State.reset.WireOrderOk

/-- R22 to R29, R33 to R38: every step keeps the invariant of the status word and of the transaction in
flight. After a reset step the clauses `T_MARK <= now` and the ten bytes of `RXBUF` rest on the model's
reset values (log entry 4). -/
def Obligations.StepKeepsTheInvariant : Prop :=
  ∀ s t : State, s.Inv → step s = .next t → t.Inv

/-- R116: every frame put on the wire carries the device address, one of the two function codes, and the
checksum of its first six bytes; every step keeps this. -/
def Obligations.StepKeepsWireFramesValid : Prop :=
  ∀ s t : State, s.Inv → s.WireFramesOk → step s = .next t → t.WireFramesOk

/-- R147, R148: each receive on the wire stands directly after the frame it answers, one for one; every step
keeps this. -/
def Obligations.StepKeepsReceivesAfterSends : Prop :=
  ∀ s t : State, s.WireOrderOk → step s = .next t → t.WireOrderOk

/-- R139 to R146, R148: the block's own step takes the phases forward only, and sends in TX and receives in
RX only. -/
def Obligations.PhasesMoveForwardOnly : Prop :=
  ∀ s t : State, s.PhaseTurn → step s = .next t →
    (t.phase = s.phase ∨ t.phase = .idle ∨ (s.phase = .tx ∧ t.phase = .rx) ∨
      (s.phase = .rx ∧ t.phase = .decode) ∨ (s.phase = .decode ∧ t.phase = .settle)) ∧
    (s.phase = .tx → t.phase ≠ .tx) ∧ (s.phase = .decode → t.phase ≠ .decode) ∧
    (∀ f ok, t.wireLog = s.wireLog ++ [.tx f ok] → s.phase = .tx) ∧
    (∀ bs, t.wireLog = s.wireLog ++ [.rx bs] → s.phase = .rx)

/-- R207: a command the block accepts either posts its result in that step or goes in flight, and a
transaction leaves flight only by posting its result. -/
def Obligations.EveryAcceptedCommandPostsAResult : Prop :=
  ∀ s t : State, s.draw.agent = .block → step s = .next t → (s.phase ≠ .idle ∨ s.port ≠ []) →
    (t.phase = .idle ∧ t.done = true) ∨ (s.phase = .idle ∧ t.phase = .tx ∧ t.done = false) ∨
      (s.phase ≠ .idle ∧ t.phase ≠ .idle ∧ t.done = s.done)

/-- R24, R211: a posted result stays until the next command is accepted or the block is reset. -/
def Obligations.PostedResultStays : Prop :=
  ∀ s t : State, s.phase = .idle → ¬ (s.draw.agent = .block ∧ s.port ≠ []) → ¬ s.TakesReset →
    step s = .next t →
    t.phase = .idle ∧ t.status = s.status ∧ t.data0 = s.data0 ∧ t.data1 = s.data1 ∧ t.rxLen = s.rxLen

/-- R40: the wire event log is append-only. -/
def Obligations.WireLogIsAppendOnly : Prop :=
  ∀ s t : State, step s = .next t → ∃ es, t.wireLog = s.wireLog ++ es ∧ es.length ≤ 1

/-- R31, R38: no step writes the configuration, and `now` moves only by the clock and only forward. -/
def Obligations.ConfigurationAndTimeAreKept : Prop :=
  ∀ s t : State, step s = .next t →
    t.cfg = s.cfg ∧ s.now ≤ t.now ∧ (t.now ≠ s.now ↔ s.draw.agent = .clock)

/-- R30, R106, R249: only CRC_INIT, CRC_FEED and reset write `CRC_ACC`. -/
def Obligations.OnlyCrcCommandsWriteTheAccumulator : Prop :=
  ∀ s t : State, step s = .next t → t.crcAcc ≠ s.crcAcc →
    s.TakesReset ∨ s.TakesCommand (.crcInit 0#16 0#16) ∨ ∃ b, s.TakesCommand (.crcFeed 0#16 0#8 b)

/-- R26: `LINK` changes only by CONNECT, by CLOSE and by reset. -/
def Obligations.OnlyConnectCloseAndResetChangeTheLink : Prop :=
  ∀ s t : State, step s = .next t → t.link ≠ s.link →
    (s.TakesReset ∧ t.link = .unopened) ∨
    (s.TakesCommand (.connect 0#16 0#16) ∧ s.link ≠ .opened ∧ t.link = .opened) ∨
    (s.TakesCommand (.close 0#16 0#16) ∧ t.link = .closed)

/-- R149: an error of TX, RX or DECODE leaves the link open; only CLOSE makes it CLOSED. -/
def Obligations.ErrorsLeaveTheLinkOpen : Prop :=
  ∀ s t : State, s.Inv → step s = .next t →
    (s.phase ≠ .idle → t.err = true → ¬ (t.errKind = 2#4 ∧ t.errSub = 4#4) → t.link = .opened) ∧
    (t.link = .closed → s.link ≠ .closed → s.TakesCommand (.close 0#16 0#16))

/-- R151: a WRITE_REG in flight posts success, a TransportFailure or a TimeoutFailure, never a
MalformedReply or a ContractViolation; a READ_REGS in flight never a ContractViolation. -/
def Obligations.TransactionsPostOnlyTheirOwnErrors : Prop :=
  ∀ s t : State, s.Inv → s.phase ≠ .idle → step s = .next t → t.err = true →
    (t.errKind = 2#4 ∧ t.errSub ≠ 5#4) ∨ t.errKind = 4#4 ∨ (t.errKind = 3#4 ∧ s.cur.op = 0x03#8)

/-- R138 to R145: a read of two registers whose frame is sent, whose complete reply arrives whole and is taken
in one receive, posts the values of that reply, with one TX and one RX event. Seven steps: acceptance, TX,
the device's reply, RX, DECODE, the clock, SETTLE. The presented word, the laid-down draws and how a draw
selects the receive and its length are the model's (log entries 2, 9 and 21). -/
def Obligations.ReadTransactionPostsTheReplyValues : Prop :=
  ∀ (s : State) (start v0 v1 : Word) (h0 h1 h2 : Byte) (d0 d1 d2 d3 d4 d5 d6 : Draw),
    s.phase = .idle → s.link = .opened → s.rxFifo = [] → start.toNat ≤ 255 →
    s.port = [(Command.mk 0x03#8 start 2#16).word] →
    s.pending = [d0, d1, d2, d3, d4, d5, d6] →
    d0.agent = .block → d1.agent = .block → d1.sendOk = true →
    d2.agent = .transport → d2.transportMove = .deliver (replyOf h0 h1 h2 [v0, v1]) →
    d3.agent = .block → d3.rxChoice = 0 → d3.recvLen = 8 → d4.agent = .block →
    d5.agent = .clock → s.cfg.settleMs ≤ d5.tick → d6.agent = .block →
    ∃ t, Sys2Proof.core.run 7 s = .next t ∧
      t.phase = .idle ∧ t.done = true ∧ t.err = false ∧ t.dcount = 2#2 ∧
      t.data0 = v0 ∧ t.data1 = v1 ∧ t.rxLen = 9#4 ∧ t.link = .opened ∧
      t.wireLog = s.wireLog ++
        [.tx (buildReadFrame s.cfg.devAddr (start.extractLsb' 0 8) 2#8) true,
          .rx (replyOf h0 h1 h2 [v0, v1])]

/-- R82, R137 to R145: a write whose frame is sent posts success whatever 1 to 10 bytes answer it. The
presented word, the laid-down draws and how a draw selects the receive and its length are the model's (log
entries 2, 9 and 21). -/
def Obligations.WriteTransactionIgnoresTheReply : Prop :=
  ∀ (s : State) (reg val : Word) (reply : List Byte) (d0 d1 d2 d3 d4 d5 d6 : Draw),
    s.phase = .idle → s.link = .opened → s.rxFifo = [] →
    1 ≤ reply.length → reply.length ≤ 10 →
    s.port = [(Command.mk 0x06#8 reg val).word] →
    s.pending = [d0, d1, d2, d3, d4, d5, d6] →
    d0.agent = .block → d1.agent = .block → d1.sendOk = true →
    d2.agent = .transport → d2.transportMove = .deliver reply →
    d3.agent = .block → d3.rxChoice = 0 → d3.recvLen + 1 = reply.length → d4.agent = .block →
    d5.agent = .clock → s.cfg.settleMs ≤ d5.tick → d6.agent = .block →
    ∃ t, Sys2Proof.core.run 7 s = .next t ∧
      t.phase = .idle ∧ t.done = true ∧ t.err = false ∧ t.dcount = 0#2 ∧
      t.rxLen.toNat = reply.length ∧ t.link = .opened ∧
      t.wireLog = s.wireLog ++ [.tx (buildWriteFrame s.cfg.devAddr reg val) true, .rx reply]

/-- R138 to R145: a read of one register, as the read of two registers above (log entries 2, 9 and 21). It leaves `DATA1` as it
was, which is the model's choice (log entry 15) and is not stated. -/
def Obligations.OneRegisterReadPostsTheReplyValue : Prop :=
  ∀ (s : State) (start v0 : Word) (h0 h1 h2 : Byte) (d0 d1 d2 d3 d4 d5 d6 : Draw),
    s.phase = .idle → s.link = .opened → s.rxFifo = [] → start.toNat ≤ 255 →
    s.port = [(Command.mk 0x03#8 start 1#16).word] →
    s.pending = [d0, d1, d2, d3, d4, d5, d6] →
    d0.agent = .block → d1.agent = .block → d1.sendOk = true →
    d2.agent = .transport → d2.transportMove = .deliver (replyOf h0 h1 h2 [v0]) →
    d3.agent = .block → d3.rxChoice = 0 → d3.recvLen = 6 → d4.agent = .block →
    d5.agent = .clock → s.cfg.settleMs ≤ d5.tick → d6.agent = .block →
    ∃ t, Sys2Proof.core.run 7 s = .next t ∧
      t.phase = .idle ∧ t.done = true ∧ t.err = false ∧ t.dcount = 1#2 ∧
      t.data0 = v0 ∧ t.rxLen = 7#4 ∧ t.link = .opened ∧
      t.wireLog = s.wireLog ++
        [.tx (buildReadFrame s.cfg.devAddr (start.extractLsb' 0 8) 1#8) true,
          .rx (replyOf h0 h1 h2 [v0])]
end

