-- ==== Sys2Proof/Laws/Codec.lean ====
section
/-!
SUPPORT. What the pure functions of the block do: bytes and words, the CRC over a sequence, the codec, and
the fields of a command word.
-/

namespace Sys2Proof.Machine

/-- The CRC over a sequence goes on from the CRC over its first part. -/
theorem crcFrom_append (r : Word) (xs ys : List Byte) :
    crcFrom r (xs ++ ys) = crcFrom (crcFrom r xs) ys := by
  induction xs generalizing r with
  | nil => rfl
  | cons b bs ih => exact ih (crcStep r b)

@[simp] theorem crcFrom_nil (r : Word) : crcFrom r [] = r := rfl

@[simp] theorem crcFrom_cons (r : Word) (b : Byte) (bs : List Byte) :
    crcFrom r (b :: bs) = crcFrom (crcStep r b) bs := rfl

/-- Both halves of `splitWord` as bytes of the word. -/
theorem splitWord_eq (w : Word) : splitWord w = (highByte w, lowByte w) := by
  refine Prod.ext ?_ ?_
  · apply BitVec.eq_of_toNat_eq
    simp [splitWord, highByte, Nat.shiftRight_eq_div_pow]
  · apply BitVec.eq_of_toNat_eq
    simp [splitWord, lowByte]

/-- A word's high byte is its bits 15:8. -/
theorem highByte_eq_extract (w : Word) : highByte w = w.extractLsb' 8 8 := by
  apply BitVec.eq_of_toNat_eq
  simp [highByte, BitVec.extractLsb'_toNat]

/-- A word's low byte is its bits 7:0. -/
theorem lowByte_eq_extract (w : Word) : lowByte w = w.extractLsb' 0 8 := by
  apply BitVec.eq_of_toNat_eq
  simp [lowByte, BitVec.extractLsb'_toNat]

/-- A word is its two bytes. -/
theorem high_append_low (w : Word) : w.extractLsb' 8 8 ++ w.extractLsb' 0 8 = w := by
  apply BitVec.eq_of_getLsbD_eq
  intro i hi
  simp only [BitVec.getLsbD_append, BitVec.getLsbD_extractLsb']
  by_cases h : i < 8
  · simp [h]
  · have : i - 8 < 8 := by omega
    simp [h, this, Nat.add_sub_cancel' (by omega : 8 ≤ i)]

/-- The high byte of a pair of bytes. -/
theorem extract_high_append (hi lo : Byte) : BitVec.extractLsb' 8 8 (hi ++ lo : Word) = hi := by
  apply BitVec.eq_of_getLsbD_eq
  intro i h
  have := BitVec.getLsbD_append (x := hi) (y := lo) (i := 8 + i)
  simp_all

/-- The low byte of a pair of bytes. -/
theorem extract_low_append (hi lo : Byte) : BitVec.extractLsb' 0 8 (hi ++ lo : Word) = lo := by
  apply BitVec.eq_of_getLsbD_eq
  intro i h
  have := BitVec.getLsbD_append (x := hi) (y := lo) (i := i)
  simp_all

/-- The three outcomes of the reply check, by the length and the checksum (R114). -/
theorem validateReadReply_cases (chk : Bool) (rx : List Byte) (k n : Nat) :
    (validateReadReply chk rx k n = .short ∧ k < minReplyLen chk n) ∨
    (validateReadReply chk rx k n = .badCrc ∧ minReplyLen chk n ≤ k ∧ chk = true) ∨
    (validateReadReply chk rx k n = .ok ∧ minReplyLen chk n ≤ k) := by
  unfold validateReadReply
  split
  · exact .inl ⟨rfl, ‹_›⟩
  · split
    · exact .inr (.inl ⟨rfl, by omega, And.left ‹_›⟩)
    · exact .inr (.inr ⟨rfl, by omega⟩)

end Sys2Proof.Machine

namespace Sys2Proof

/-- A bit of a command word read from its five bytes. -/
theorem getLsbD_cmdOfBytes (b0 b1 b2 b3 b4 : Byte) (i : Nat) :
    (cmdOfBytes b0 b1 b2 b3 b4).getLsbD i =
      if i < 8 then b4.getLsbD i else if i < 16 then b3.getLsbD (i - 8)
      else if i < 24 then b2.getLsbD (i - 16) else if i < 32 then b1.getLsbD (i - 24)
      else b0.getLsbD (i - 32) := by
  have h4 := BitVec.getLsbD_append (x := b0 ++ b1 ++ b2 ++ b3) (y := b4) (i := i)
  have h3 := BitVec.getLsbD_append (x := b0 ++ b1 ++ b2) (y := b3) (i := i - 8)
  have h2 := BitVec.getLsbD_append (x := b0 ++ b1) (y := b2) (i := i - 8 - 8)
  have h1 := BitVec.getLsbD_append (x := b0) (y := b1) (i := i - 8 - 8 - 8)
  refine h4.trans ?_
  rw [h3, h2, h1]
  simp only [Nat.sub_sub, Nat.reduceAdd]
  split_ifs <;> first | rfl | omega

/-- `OP` of five bytes is the first. -/
theorem opField_cmdOfBytes (b0 b1 b2 b3 b4 : Byte) : opField (cmdOfBytes b0 b1 b2 b3 b4) = b0 := by
  apply BitVec.eq_of_getLsbD_eq
  intro i h
  simp only [opField, BitVec.getLsbD_extractLsb', getLsbD_cmdOfBytes, h]
  split_ifs <;> first | omega | simp

/-- `A` of five bytes is the second and third. -/
theorem aField_cmdOfBytes (b0 b1 b2 b3 b4 : Byte) :
    aField (cmdOfBytes b0 b1 b2 b3 b4) = b1 ++ b2 := by
  apply BitVec.eq_of_getLsbD_eq
  intro i h
  have := BitVec.getLsbD_append (x := b1) (y := b2) (i := i)
  simp only [aField, BitVec.getLsbD_extractLsb', getLsbD_cmdOfBytes, h]
  refine Eq.trans ?_ this.symm
  split_ifs <;> first | omega | simp [show 16 + i - 16 = i by omega, show 16 + i - 24 = i - 8 by omega]

/-- `B` of five bytes is the last two. -/
theorem bField_cmdOfBytes (b0 b1 b2 b3 b4 : Byte) :
    bField (cmdOfBytes b0 b1 b2 b3 b4) = b3 ++ b4 := by
  apply BitVec.eq_of_getLsbD_eq
  intro i h
  have := BitVec.getLsbD_append (x := b3) (y := b4) (i := i)
  simp only [bField, BitVec.getLsbD_extractLsb', getLsbD_cmdOfBytes, h]
  refine Eq.trans ?_ this.symm
  split_ifs <;> first | omega | simp

/-- A read frame decodes to its instruction. -/
theorem decodeFrame_readFrameOf (a s n c d : Byte) :
    decodeFrame (readFrameOf a s n c d) = .ok (.frameReadRegisters a s n c d) := by
  simp [decodeFrame, readFrameOf, Machine.fcRead, Machine.fcWrite]

/-- A write frame decodes to its instruction. -/
theorem decodeFrame_writeFrameOf (a : Byte) (r v : Word) (c d : Byte) :
    decodeFrame (writeFrameOf a r v c d) = .ok (.frameWriteSingleRegister a r v c d) := by
  simp [decodeFrame, writeFrameOf, Machine.high_append_low]

/-- The frame built for a write is the frame its instruction stands for. -/
theorem buildWriteFrame_eq (dev : Byte) (r v : Word) :
    Machine.buildWriteFrame dev r v = writeFrameOf dev r v (Machine.buildWriteFrame dev r v).crcLo
      (Machine.buildWriteFrame dev r v).crcHi := by
  simp [Machine.buildWriteFrame, Machine.sealFrame, writeFrameOf, Machine.splitWord_eq,
    Machine.highByte_eq_extract, Machine.lowByte_eq_extract]

end Sys2Proof
end

