-- ==== Sys2Proof/Laws/Flags.lean ====
section
/-!
SUPPORT. The error codes by kind, and the bits of `STATUS`.
-/

namespace Sys2Proof.Machine

@[simp] theorem contractViolation_kind (c : ContractCause) :
    (BlockError.contractViolation c).kind = 1#4 := rfl

@[simp] theorem transportFailure_kind (c : TransportCause) :
    (BlockError.transportFailure c).kind = 2#4 := rfl

@[simp] theorem malformedReply_kind (c : MalformedCause) :
    (BlockError.malformedReply c).kind = 3#4 := rfl

@[simp] theorem timeoutFailure_kind : BlockError.timeoutFailure.kind = 4#4 := rfl

@[simp] theorem contractViolation_sub (c : ContractCause) :
    (BlockError.contractViolation c).sub = c.code := rfl

@[simp] theorem transportFailure_sub (c : TransportCause) :
    (BlockError.transportFailure c).sub = c.code := rfl

@[simp] theorem malformedReply_sub (c : MalformedCause) :
    (BlockError.malformedReply c).sub = c.code := rfl

@[simp] theorem timeoutFailure_sub : BlockError.timeoutFailure.sub = 1#4 := rfl

/-- A bit of `STATUS` is a bit of one of its fields, laid out as R22 says. -/
theorem status_getLsbD (s : State) (i : Nat) :
    s.status.getLsbD i =
      if i < 1 then (BitVec.ofBool s.busy).getLsbD i
      else if i < 2 then (BitVec.ofBool s.done).getLsbD (i - 1)
      else if i < 3 then (BitVec.ofBool s.err).getLsbD (i - 2)
      else if i < 4 then (0#1).getLsbD (i - 3)
      else if i < 8 then s.errKind.getLsbD (i - 4)
      else if i < 12 then s.errSub.getLsbD (i - 8)
      else if i < 14 then s.link.code.getLsbD (i - 12)
      else s.dcount.getLsbD (i - 14) := by
  have a1 := BitVec.getLsbD_append (x := s.dcount ++ s.link.code ++ s.errSub ++ s.errKind ++ 0#1 ++
    BitVec.ofBool s.err ++ BitVec.ofBool s.done) (y := BitVec.ofBool s.busy) (i := i)
  have a2 := BitVec.getLsbD_append (x := s.dcount ++ s.link.code ++ s.errSub ++ s.errKind ++ 0#1 ++
    BitVec.ofBool s.err) (y := BitVec.ofBool s.done) (i := i - 1)
  have a3 := BitVec.getLsbD_append (x := s.dcount ++ s.link.code ++ s.errSub ++ s.errKind ++ 0#1)
    (y := BitVec.ofBool s.err) (i := i - 1 - 1)
  have a4 := BitVec.getLsbD_append (x := s.dcount ++ s.link.code ++ s.errSub ++ s.errKind)
    (y := 0#1) (i := i - 1 - 1 - 1)
  have a5 := BitVec.getLsbD_append (x := s.dcount ++ s.link.code ++ s.errSub) (y := s.errKind)
    (i := i - 1 - 1 - 1 - 1)
  have a6 := BitVec.getLsbD_append (x := s.dcount ++ s.link.code) (y := s.errSub)
    (i := i - 1 - 1 - 1 - 1 - 4)
  have a7 := BitVec.getLsbD_append (x := s.dcount) (y := s.link.code) (i := i - 1 - 1 - 1 - 1 - 4 - 4)
  refine a1.trans ?_
  rw [a2, a3, a4, a5, a6, a7]
  clear a1 a2 a3 a4 a5 a6 a7
  simp only [Nat.sub_sub, Nat.reduceAdd]
  by_cases h1 : i < 1
  · simp only [h1, if_true]
  by_cases h2 : i < 2
  · simp only [h1, h2, show i - 1 < 1 by omega, if_true, if_false]
  simp only [h1, h2, show ¬ i - 1 < 1 by omega, if_false]
  by_cases h3 : i < 3
  · simp only [h3, show i - 2 < 1 by omega, if_true]
  simp only [h3, show ¬ i - 2 < 1 by omega, if_false]
  by_cases h4 : i < 4
  · simp only [h4, show i - 3 < 1 by omega, if_true]
  simp only [h4, show ¬ i - 3 < 1 by omega, if_false]
  by_cases h5 : i < 8
  · simp only [h5, show i - 4 < 4 by omega, if_true]
  simp only [h5, show ¬ i - 4 < 4 by omega, if_false]
  by_cases h6 : i < 12
  · simp only [h6, show i - 8 < 4 by omega, if_true]
  simp only [h6, show ¬ i - 8 < 4 by omega, if_false]
  by_cases h7 : i < 14
  · simp only [h7, show i - 12 < 2 by omega, if_true]
  · simp only [h7, show ¬ i - 12 < 2 by omega, if_false]

end Sys2Proof.Machine
end

