-- ==== Sys2Proof/Laws/State.lean ====
section
/-!
SUPPORT. One lemma per field per update of the state, so that no proof unfolds an update.
-/

namespace Sys2Proof.Machine

variable (s : State)

/-! ### `State.postOk` -/

@[simp] theorem State.postOk_busy (n : Nat) (d0 d1 : Word) : (s.postOk n d0 d1).busy = false := rfl
@[simp] theorem State.postOk_done (n : Nat) (d0 d1 : Word) : (s.postOk n d0 d1).done = true := rfl
@[simp] theorem State.postOk_err (n : Nat) (d0 d1 : Word) : (s.postOk n d0 d1).err = false := rfl
@[simp] theorem State.postOk_errKind (n : Nat) (d0 d1 : Word) :
    (s.postOk n d0 d1).errKind = 0#4 := rfl
@[simp] theorem State.postOk_errSub (n : Nat) (d0 d1 : Word) :
    (s.postOk n d0 d1).errSub = 0#4 := rfl
@[simp] theorem State.postOk_link (n : Nat) (d0 d1 : Word) :
    (s.postOk n d0 d1).link = s.link := rfl
@[simp] theorem State.postOk_dcount (n : Nat) (d0 d1 : Word) :
    (s.postOk n d0 d1).dcount = BitVec.ofNat 2 n := rfl
@[simp] theorem State.postOk_data0 (n : Nat) (d0 d1 : Word) :
    (s.postOk n d0 d1).data0 = if 1 ≤ n then d0 else s.data0 := rfl
@[simp] theorem State.postOk_data1 (n : Nat) (d0 d1 : Word) :
    (s.postOk n d0 d1).data1 = if n = 2 then d1 else s.data1 := rfl
@[simp] theorem State.postOk_rxLen (n : Nat) (d0 d1 : Word) :
    (s.postOk n d0 d1).rxLen = s.rxLen := rfl
@[simp] theorem State.postOk_crcAcc (n : Nat) (d0 d1 : Word) :
    (s.postOk n d0 d1).crcAcc = s.crcAcc := rfl
@[simp] theorem State.postOk_txBuf (n : Nat) (d0 d1 : Word) :
    (s.postOk n d0 d1).txBuf = s.txBuf := rfl
@[simp] theorem State.postOk_rxBuf (n : Nat) (d0 d1 : Word) :
    (s.postOk n d0 d1).rxBuf = s.rxBuf := rfl
@[simp] theorem State.postOk_phase (n : Nat) (d0 d1 : Word) :
    (s.postOk n d0 d1).phase = .idle := rfl
@[simp] theorem State.postOk_cur (n : Nat) (d0 d1 : Word) : (s.postOk n d0 d1).cur = s.cur := rfl
@[simp] theorem State.postOk_tMark (n : Nat) (d0 d1 : Word) :
    (s.postOk n d0 d1).tMark = s.tMark := rfl
@[simp] theorem State.postOk_cfg (n : Nat) (d0 d1 : Word) : (s.postOk n d0 d1).cfg = s.cfg := rfl
@[simp] theorem State.postOk_now (n : Nat) (d0 d1 : Word) : (s.postOk n d0 d1).now = s.now := rfl
@[simp] theorem State.postOk_rxFifo (n : Nat) (d0 d1 : Word) :
    (s.postOk n d0 d1).rxFifo = s.rxFifo := rfl
@[simp] theorem State.postOk_rxClosed (n : Nat) (d0 d1 : Word) :
    (s.postOk n d0 d1).rxClosed = s.rxClosed := rfl
@[simp] theorem State.postOk_rxError (n : Nat) (d0 d1 : Word) :
    (s.postOk n d0 d1).rxError = s.rxError := rfl
@[simp] theorem State.postOk_wireLog (n : Nat) (d0 d1 : Word) :
    (s.postOk n d0 d1).wireLog = s.wireLog := rfl
@[simp] theorem State.postOk_port (n : Nat) (d0 d1 : Word) :
    (s.postOk n d0 d1).port = s.port := rfl
@[simp] theorem State.postOk_drawCount (n : Nat) (d0 d1 : Word) :
    (s.postOk n d0 d1).drawCount = s.drawCount := rfl
@[simp] theorem State.postOk_pending (n : Nat) (d0 d1 : Word) :
    (s.postOk n d0 d1).pending = s.pending := rfl

/-! ### `State.raise` -/

@[simp] theorem State.raise_busy (e : BlockError) : (s.raise e).busy = false := rfl
@[simp] theorem State.raise_done (e : BlockError) : (s.raise e).done = true := rfl
@[simp] theorem State.raise_err (e : BlockError) : (s.raise e).err = true := rfl
@[simp] theorem State.raise_errKind (e : BlockError) : (s.raise e).errKind = e.kind := rfl
@[simp] theorem State.raise_errSub (e : BlockError) : (s.raise e).errSub = e.sub := rfl
@[simp] theorem State.raise_link (e : BlockError) : (s.raise e).link = s.link := rfl
@[simp] theorem State.raise_dcount (e : BlockError) : (s.raise e).dcount = 0#2 := rfl
@[simp] theorem State.raise_data0 (e : BlockError) : (s.raise e).data0 = s.data0 := rfl
@[simp] theorem State.raise_data1 (e : BlockError) : (s.raise e).data1 = s.data1 := rfl
@[simp] theorem State.raise_rxLen (e : BlockError) : (s.raise e).rxLen = s.rxLen := rfl
@[simp] theorem State.raise_crcAcc (e : BlockError) : (s.raise e).crcAcc = s.crcAcc := rfl
@[simp] theorem State.raise_txBuf (e : BlockError) : (s.raise e).txBuf = s.txBuf := rfl
@[simp] theorem State.raise_rxBuf (e : BlockError) : (s.raise e).rxBuf = s.rxBuf := rfl
@[simp] theorem State.raise_phase (e : BlockError) : (s.raise e).phase = .idle := rfl
@[simp] theorem State.raise_cur (e : BlockError) : (s.raise e).cur = s.cur := rfl
@[simp] theorem State.raise_tMark (e : BlockError) : (s.raise e).tMark = s.tMark := rfl
@[simp] theorem State.raise_cfg (e : BlockError) : (s.raise e).cfg = s.cfg := rfl
@[simp] theorem State.raise_now (e : BlockError) : (s.raise e).now = s.now := rfl
@[simp] theorem State.raise_rxFifo (e : BlockError) : (s.raise e).rxFifo = s.rxFifo := rfl
@[simp] theorem State.raise_rxClosed (e : BlockError) : (s.raise e).rxClosed = s.rxClosed := rfl
@[simp] theorem State.raise_rxError (e : BlockError) : (s.raise e).rxError = s.rxError := rfl
@[simp] theorem State.raise_wireLog (e : BlockError) : (s.raise e).wireLog = s.wireLog := rfl
@[simp] theorem State.raise_port (e : BlockError) : (s.raise e).port = s.port := rfl
@[simp] theorem State.raise_drawCount (e : BlockError) : (s.raise e).drawCount = s.drawCount := rfl
@[simp] theorem State.raise_pending (e : BlockError) : (s.raise e).pending = s.pending := rfl

/-! ### `State.accept` -/

@[simp] theorem State.accept_busy (c : Command) : (s.accept c).busy = s.busy := rfl
@[simp] theorem State.accept_done (c : Command) : (s.accept c).done = false := rfl
@[simp] theorem State.accept_err (c : Command) : (s.accept c).err = false := rfl
@[simp] theorem State.accept_errKind (c : Command) : (s.accept c).errKind = 0#4 := rfl
@[simp] theorem State.accept_errSub (c : Command) : (s.accept c).errSub = 0#4 := rfl
@[simp] theorem State.accept_link (c : Command) : (s.accept c).link = s.link := rfl
@[simp] theorem State.accept_dcount (c : Command) : (s.accept c).dcount = 0#2 := rfl
@[simp] theorem State.accept_data0 (c : Command) : (s.accept c).data0 = s.data0 := rfl
@[simp] theorem State.accept_data1 (c : Command) : (s.accept c).data1 = s.data1 := rfl
@[simp] theorem State.accept_rxLen (c : Command) : (s.accept c).rxLen = 0#4 := rfl
@[simp] theorem State.accept_crcAcc (c : Command) : (s.accept c).crcAcc = s.crcAcc := rfl
@[simp] theorem State.accept_txBuf (c : Command) : (s.accept c).txBuf = s.txBuf := rfl
@[simp] theorem State.accept_rxBuf (c : Command) : (s.accept c).rxBuf = s.rxBuf := rfl
@[simp] theorem State.accept_phase (c : Command) : (s.accept c).phase = s.phase := rfl
@[simp] theorem State.accept_cur (c : Command) : (s.accept c).cur = c := rfl
@[simp] theorem State.accept_tMark (c : Command) : (s.accept c).tMark = s.tMark := rfl
@[simp] theorem State.accept_cfg (c : Command) : (s.accept c).cfg = s.cfg := rfl
@[simp] theorem State.accept_now (c : Command) : (s.accept c).now = s.now := rfl
@[simp] theorem State.accept_rxFifo (c : Command) : (s.accept c).rxFifo = s.rxFifo := rfl
@[simp] theorem State.accept_rxClosed (c : Command) : (s.accept c).rxClosed = s.rxClosed := rfl
@[simp] theorem State.accept_rxError (c : Command) : (s.accept c).rxError = s.rxError := rfl
@[simp] theorem State.accept_wireLog (c : Command) : (s.accept c).wireLog = s.wireLog := rfl
@[simp] theorem State.accept_port (c : Command) : (s.accept c).port = s.port := rfl
@[simp] theorem State.accept_drawCount (c : Command) : (s.accept c).drawCount = s.drawCount := rfl
@[simp] theorem State.accept_pending (c : Command) : (s.accept c).pending = s.pending := rfl

/-! ### `State.logEvent` -/

@[simp] theorem State.logEvent_busy (e : WireEvent) : (s.logEvent e).busy = s.busy := rfl
@[simp] theorem State.logEvent_done (e : WireEvent) : (s.logEvent e).done = s.done := rfl
@[simp] theorem State.logEvent_err (e : WireEvent) : (s.logEvent e).err = s.err := rfl
@[simp] theorem State.logEvent_errKind (e : WireEvent) : (s.logEvent e).errKind = s.errKind := rfl
@[simp] theorem State.logEvent_errSub (e : WireEvent) : (s.logEvent e).errSub = s.errSub := rfl
@[simp] theorem State.logEvent_link (e : WireEvent) : (s.logEvent e).link = s.link := rfl
@[simp] theorem State.logEvent_dcount (e : WireEvent) : (s.logEvent e).dcount = s.dcount := rfl
@[simp] theorem State.logEvent_data0 (e : WireEvent) : (s.logEvent e).data0 = s.data0 := rfl
@[simp] theorem State.logEvent_data1 (e : WireEvent) : (s.logEvent e).data1 = s.data1 := rfl
@[simp] theorem State.logEvent_rxLen (e : WireEvent) : (s.logEvent e).rxLen = s.rxLen := rfl
@[simp] theorem State.logEvent_crcAcc (e : WireEvent) : (s.logEvent e).crcAcc = s.crcAcc := rfl
@[simp] theorem State.logEvent_txBuf (e : WireEvent) : (s.logEvent e).txBuf = s.txBuf := rfl
@[simp] theorem State.logEvent_rxBuf (e : WireEvent) : (s.logEvent e).rxBuf = s.rxBuf := rfl
@[simp] theorem State.logEvent_phase (e : WireEvent) : (s.logEvent e).phase = s.phase := rfl
@[simp] theorem State.logEvent_cur (e : WireEvent) : (s.logEvent e).cur = s.cur := rfl
@[simp] theorem State.logEvent_tMark (e : WireEvent) : (s.logEvent e).tMark = s.tMark := rfl
@[simp] theorem State.logEvent_cfg (e : WireEvent) : (s.logEvent e).cfg = s.cfg := rfl
@[simp] theorem State.logEvent_now (e : WireEvent) : (s.logEvent e).now = s.now := rfl
@[simp] theorem State.logEvent_rxFifo (e : WireEvent) : (s.logEvent e).rxFifo = s.rxFifo := rfl
@[simp] theorem State.logEvent_rxClosed (e : WireEvent) :
    (s.logEvent e).rxClosed = s.rxClosed := rfl
@[simp] theorem State.logEvent_rxError (e : WireEvent) : (s.logEvent e).rxError = s.rxError := rfl
@[simp] theorem State.logEvent_wireLog (e : WireEvent) :
    (s.logEvent e).wireLog = s.wireLog ++ [e] := rfl
@[simp] theorem State.logEvent_port (e : WireEvent) : (s.logEvent e).port = s.port := rfl
@[simp] theorem State.logEvent_drawCount (e : WireEvent) :
    (s.logEvent e).drawCount = s.drawCount := rfl
@[simp] theorem State.logEvent_pending (e : WireEvent) : (s.logEvent e).pending = s.pending := rfl

/-! ### `State.freshChannel` -/

@[simp] theorem State.freshChannel_busy : (s.freshChannel).busy = s.busy := rfl
@[simp] theorem State.freshChannel_done : (s.freshChannel).done = s.done := rfl
@[simp] theorem State.freshChannel_err : (s.freshChannel).err = s.err := rfl
@[simp] theorem State.freshChannel_errKind : (s.freshChannel).errKind = s.errKind := rfl
@[simp] theorem State.freshChannel_errSub : (s.freshChannel).errSub = s.errSub := rfl
@[simp] theorem State.freshChannel_link : (s.freshChannel).link = s.link := rfl
@[simp] theorem State.freshChannel_dcount : (s.freshChannel).dcount = s.dcount := rfl
@[simp] theorem State.freshChannel_data0 : (s.freshChannel).data0 = s.data0 := rfl
@[simp] theorem State.freshChannel_data1 : (s.freshChannel).data1 = s.data1 := rfl
@[simp] theorem State.freshChannel_rxLen : (s.freshChannel).rxLen = s.rxLen := rfl
@[simp] theorem State.freshChannel_crcAcc : (s.freshChannel).crcAcc = s.crcAcc := rfl
@[simp] theorem State.freshChannel_txBuf : (s.freshChannel).txBuf = s.txBuf := rfl
@[simp] theorem State.freshChannel_rxBuf : (s.freshChannel).rxBuf = s.rxBuf := rfl
@[simp] theorem State.freshChannel_phase : (s.freshChannel).phase = s.phase := rfl
@[simp] theorem State.freshChannel_cur : (s.freshChannel).cur = s.cur := rfl
@[simp] theorem State.freshChannel_tMark : (s.freshChannel).tMark = s.tMark := rfl
@[simp] theorem State.freshChannel_cfg : (s.freshChannel).cfg = s.cfg := rfl
@[simp] theorem State.freshChannel_now : (s.freshChannel).now = s.now := rfl
@[simp] theorem State.freshChannel_rxFifo : (s.freshChannel).rxFifo = [] := rfl
@[simp] theorem State.freshChannel_rxClosed : (s.freshChannel).rxClosed = false := rfl
@[simp] theorem State.freshChannel_rxError : (s.freshChannel).rxError = false := rfl
@[simp] theorem State.freshChannel_wireLog : (s.freshChannel).wireLog = s.wireLog := rfl
@[simp] theorem State.freshChannel_port : (s.freshChannel).port = s.port := rfl
@[simp] theorem State.freshChannel_drawCount : (s.freshChannel).drawCount = s.drawCount := rfl
@[simp] theorem State.freshChannel_pending : (s.freshChannel).pending = s.pending := rfl

/-! ### `State.closeLink` -/

@[simp] theorem State.closeLink_busy : (s.closeLink).busy = s.busy := rfl
@[simp] theorem State.closeLink_done : (s.closeLink).done = s.done := rfl
@[simp] theorem State.closeLink_err : (s.closeLink).err = s.err := rfl
@[simp] theorem State.closeLink_errKind : (s.closeLink).errKind = s.errKind := rfl
@[simp] theorem State.closeLink_errSub : (s.closeLink).errSub = s.errSub := rfl
@[simp] theorem State.closeLink_link : (s.closeLink).link = .closed := rfl
@[simp] theorem State.closeLink_dcount : (s.closeLink).dcount = s.dcount := rfl
@[simp] theorem State.closeLink_data0 : (s.closeLink).data0 = s.data0 := rfl
@[simp] theorem State.closeLink_data1 : (s.closeLink).data1 = s.data1 := rfl
@[simp] theorem State.closeLink_rxLen : (s.closeLink).rxLen = s.rxLen := rfl
@[simp] theorem State.closeLink_crcAcc : (s.closeLink).crcAcc = s.crcAcc := rfl
@[simp] theorem State.closeLink_txBuf : (s.closeLink).txBuf = s.txBuf := rfl
@[simp] theorem State.closeLink_rxBuf : (s.closeLink).rxBuf = s.rxBuf := rfl
@[simp] theorem State.closeLink_phase : (s.closeLink).phase = s.phase := rfl
@[simp] theorem State.closeLink_cur : (s.closeLink).cur = s.cur := rfl
@[simp] theorem State.closeLink_tMark : (s.closeLink).tMark = s.tMark := rfl
@[simp] theorem State.closeLink_cfg : (s.closeLink).cfg = s.cfg := rfl
@[simp] theorem State.closeLink_now : (s.closeLink).now = s.now := rfl
@[simp] theorem State.closeLink_rxFifo : (s.closeLink).rxFifo = [] := rfl
@[simp] theorem State.closeLink_rxClosed : (s.closeLink).rxClosed = false := rfl
@[simp] theorem State.closeLink_rxError : (s.closeLink).rxError = false := rfl
@[simp] theorem State.closeLink_wireLog : (s.closeLink).wireLog = s.wireLog ++ [.close] := rfl
@[simp] theorem State.closeLink_port : (s.closeLink).port = s.port := rfl
@[simp] theorem State.closeLink_drawCount : (s.closeLink).drawCount = s.drawCount := rfl
@[simp] theorem State.closeLink_pending : (s.closeLink).pending = s.pending := rfl

/-! ### `State.postCrc` -/

@[simp] theorem State.postCrc_busy (r : Word) : (s.postCrc r).busy = false := rfl
@[simp] theorem State.postCrc_done (r : Word) : (s.postCrc r).done = true := rfl
@[simp] theorem State.postCrc_err (r : Word) : (s.postCrc r).err = false := rfl
@[simp] theorem State.postCrc_errKind (r : Word) : (s.postCrc r).errKind = 0#4 := rfl
@[simp] theorem State.postCrc_errSub (r : Word) : (s.postCrc r).errSub = 0#4 := rfl
@[simp] theorem State.postCrc_link (r : Word) : (s.postCrc r).link = s.link := rfl
@[simp] theorem State.postCrc_dcount (r : Word) : (s.postCrc r).dcount = 1#2 := rfl
@[simp] theorem State.postCrc_data0 (r : Word) : (s.postCrc r).data0 = r := rfl
@[simp] theorem State.postCrc_data1 (r : Word) : (s.postCrc r).data1 = s.data1 := rfl
@[simp] theorem State.postCrc_rxLen (r : Word) : (s.postCrc r).rxLen = s.rxLen := rfl
@[simp] theorem State.postCrc_crcAcc (r : Word) : (s.postCrc r).crcAcc = r := rfl
@[simp] theorem State.postCrc_txBuf (r : Word) : (s.postCrc r).txBuf = s.txBuf := rfl
@[simp] theorem State.postCrc_rxBuf (r : Word) : (s.postCrc r).rxBuf = s.rxBuf := rfl
@[simp] theorem State.postCrc_phase (r : Word) : (s.postCrc r).phase = .idle := rfl
@[simp] theorem State.postCrc_cur (r : Word) : (s.postCrc r).cur = s.cur := rfl
@[simp] theorem State.postCrc_tMark (r : Word) : (s.postCrc r).tMark = s.tMark := rfl
@[simp] theorem State.postCrc_cfg (r : Word) : (s.postCrc r).cfg = s.cfg := rfl
@[simp] theorem State.postCrc_now (r : Word) : (s.postCrc r).now = s.now := rfl
@[simp] theorem State.postCrc_rxFifo (r : Word) : (s.postCrc r).rxFifo = s.rxFifo := rfl
@[simp] theorem State.postCrc_rxClosed (r : Word) : (s.postCrc r).rxClosed = s.rxClosed := rfl
@[simp] theorem State.postCrc_rxError (r : Word) : (s.postCrc r).rxError = s.rxError := rfl
@[simp] theorem State.postCrc_wireLog (r : Word) : (s.postCrc r).wireLog = s.wireLog := rfl
@[simp] theorem State.postCrc_port (r : Word) : (s.postCrc r).port = s.port := rfl
@[simp] theorem State.postCrc_drawCount (r : Word) : (s.postCrc r).drawCount = s.drawCount := rfl
@[simp] theorem State.postCrc_pending (r : Word) : (s.postCrc r).pending = s.pending := rfl

/-! ### `State.startTransaction` -/

@[simp] theorem State.startTransaction_busy (fr : Frame) :
    (s.startTransaction fr).busy = true := rfl
@[simp] theorem State.startTransaction_done (fr : Frame) :
    (s.startTransaction fr).done = s.done := rfl
@[simp] theorem State.startTransaction_err (fr : Frame) :
    (s.startTransaction fr).err = s.err := rfl
@[simp] theorem State.startTransaction_errKind (fr : Frame) :
    (s.startTransaction fr).errKind = s.errKind := rfl
@[simp] theorem State.startTransaction_errSub (fr : Frame) :
    (s.startTransaction fr).errSub = s.errSub := rfl
@[simp] theorem State.startTransaction_link (fr : Frame) :
    (s.startTransaction fr).link = s.link := rfl
@[simp] theorem State.startTransaction_dcount (fr : Frame) :
    (s.startTransaction fr).dcount = s.dcount := rfl
@[simp] theorem State.startTransaction_data0 (fr : Frame) :
    (s.startTransaction fr).data0 = s.data0 := rfl
@[simp] theorem State.startTransaction_data1 (fr : Frame) :
    (s.startTransaction fr).data1 = s.data1 := rfl
@[simp] theorem State.startTransaction_rxLen (fr : Frame) :
    (s.startTransaction fr).rxLen = s.rxLen := rfl
@[simp] theorem State.startTransaction_crcAcc (fr : Frame) :
    (s.startTransaction fr).crcAcc = s.crcAcc := rfl
@[simp] theorem State.startTransaction_txBuf (fr : Frame) :
    (s.startTransaction fr).txBuf = fr := rfl
@[simp] theorem State.startTransaction_rxBuf (fr : Frame) :
    (s.startTransaction fr).rxBuf = s.rxBuf := rfl
@[simp] theorem State.startTransaction_phase (fr : Frame) :
    (s.startTransaction fr).phase = .tx := rfl
@[simp] theorem State.startTransaction_cur (fr : Frame) :
    (s.startTransaction fr).cur = s.cur := rfl
@[simp] theorem State.startTransaction_tMark (fr : Frame) :
    (s.startTransaction fr).tMark = s.tMark := rfl
@[simp] theorem State.startTransaction_cfg (fr : Frame) :
    (s.startTransaction fr).cfg = s.cfg := rfl
@[simp] theorem State.startTransaction_now (fr : Frame) :
    (s.startTransaction fr).now = s.now := rfl
@[simp] theorem State.startTransaction_rxFifo (fr : Frame) :
    (s.startTransaction fr).rxFifo = s.rxFifo := rfl
@[simp] theorem State.startTransaction_rxClosed (fr : Frame) :
    (s.startTransaction fr).rxClosed = s.rxClosed := rfl
@[simp] theorem State.startTransaction_rxError (fr : Frame) :
    (s.startTransaction fr).rxError = s.rxError := rfl
@[simp] theorem State.startTransaction_wireLog (fr : Frame) :
    (s.startTransaction fr).wireLog = s.wireLog := rfl
@[simp] theorem State.startTransaction_port (fr : Frame) :
    (s.startTransaction fr).port = s.port := rfl
@[simp] theorem State.startTransaction_drawCount (fr : Frame) :
    (s.startTransaction fr).drawCount = s.drawCount := rfl
@[simp] theorem State.startTransaction_pending (fr : Frame) :
    (s.startTransaction fr).pending = s.pending := rfl

/-! ### `State.logSend` -/

@[simp] theorem State.logSend_busy (fr : Frame) (ok : Bool) :
    (s.logSend fr ok).busy = s.busy := rfl
@[simp] theorem State.logSend_done (fr : Frame) (ok : Bool) :
    (s.logSend fr ok).done = s.done := rfl
@[simp] theorem State.logSend_err (fr : Frame) (ok : Bool) : (s.logSend fr ok).err = s.err := rfl
@[simp] theorem State.logSend_errKind (fr : Frame) (ok : Bool) :
    (s.logSend fr ok).errKind = s.errKind := rfl
@[simp] theorem State.logSend_errSub (fr : Frame) (ok : Bool) :
    (s.logSend fr ok).errSub = s.errSub := rfl
@[simp] theorem State.logSend_link (fr : Frame) (ok : Bool) :
    (s.logSend fr ok).link = s.link := rfl
@[simp] theorem State.logSend_dcount (fr : Frame) (ok : Bool) :
    (s.logSend fr ok).dcount = s.dcount := rfl
@[simp] theorem State.logSend_data0 (fr : Frame) (ok : Bool) :
    (s.logSend fr ok).data0 = s.data0 := rfl
@[simp] theorem State.logSend_data1 (fr : Frame) (ok : Bool) :
    (s.logSend fr ok).data1 = s.data1 := rfl
@[simp] theorem State.logSend_rxLen (fr : Frame) (ok : Bool) :
    (s.logSend fr ok).rxLen = s.rxLen := rfl
@[simp] theorem State.logSend_crcAcc (fr : Frame) (ok : Bool) :
    (s.logSend fr ok).crcAcc = s.crcAcc := rfl
@[simp] theorem State.logSend_txBuf (fr : Frame) (ok : Bool) : (s.logSend fr ok).txBuf = fr := rfl
@[simp] theorem State.logSend_rxBuf (fr : Frame) (ok : Bool) :
    (s.logSend fr ok).rxBuf = s.rxBuf := rfl
@[simp] theorem State.logSend_phase (fr : Frame) (ok : Bool) :
    (s.logSend fr ok).phase = s.phase := rfl
@[simp] theorem State.logSend_cur (fr : Frame) (ok : Bool) : (s.logSend fr ok).cur = s.cur := rfl
@[simp] theorem State.logSend_tMark (fr : Frame) (ok : Bool) :
    (s.logSend fr ok).tMark = s.tMark := rfl
@[simp] theorem State.logSend_cfg (fr : Frame) (ok : Bool) : (s.logSend fr ok).cfg = s.cfg := rfl
@[simp] theorem State.logSend_now (fr : Frame) (ok : Bool) : (s.logSend fr ok).now = s.now := rfl
@[simp] theorem State.logSend_rxFifo (fr : Frame) (ok : Bool) :
    (s.logSend fr ok).rxFifo = s.rxFifo := rfl
@[simp] theorem State.logSend_rxClosed (fr : Frame) (ok : Bool) :
    (s.logSend fr ok).rxClosed = s.rxClosed := rfl
@[simp] theorem State.logSend_rxError (fr : Frame) (ok : Bool) :
    (s.logSend fr ok).rxError = s.rxError := rfl
@[simp] theorem State.logSend_wireLog (fr : Frame) (ok : Bool) :
    (s.logSend fr ok).wireLog = s.wireLog ++ [.tx fr ok] := rfl
@[simp] theorem State.logSend_port (fr : Frame) (ok : Bool) :
    (s.logSend fr ok).port = s.port := rfl
@[simp] theorem State.logSend_drawCount (fr : Frame) (ok : Bool) :
    (s.logSend fr ok).drawCount = s.drawCount := rfl
@[simp] theorem State.logSend_pending (fr : Frame) (ok : Bool) :
    (s.logSend fr ok).pending = s.pending := rfl

/-! ### `State.startReceive` -/

@[simp] theorem State.startReceive_busy : (s.startReceive).busy = s.busy := rfl
@[simp] theorem State.startReceive_done : (s.startReceive).done = s.done := rfl
@[simp] theorem State.startReceive_err : (s.startReceive).err = s.err := rfl
@[simp] theorem State.startReceive_errKind : (s.startReceive).errKind = s.errKind := rfl
@[simp] theorem State.startReceive_errSub : (s.startReceive).errSub = s.errSub := rfl
@[simp] theorem State.startReceive_link : (s.startReceive).link = s.link := rfl
@[simp] theorem State.startReceive_dcount : (s.startReceive).dcount = s.dcount := rfl
@[simp] theorem State.startReceive_data0 : (s.startReceive).data0 = s.data0 := rfl
@[simp] theorem State.startReceive_data1 : (s.startReceive).data1 = s.data1 := rfl
@[simp] theorem State.startReceive_rxLen : (s.startReceive).rxLen = s.rxLen := rfl
@[simp] theorem State.startReceive_crcAcc : (s.startReceive).crcAcc = s.crcAcc := rfl
@[simp] theorem State.startReceive_txBuf : (s.startReceive).txBuf = s.txBuf := rfl
@[simp] theorem State.startReceive_rxBuf : (s.startReceive).rxBuf = s.rxBuf := rfl
@[simp] theorem State.startReceive_phase : (s.startReceive).phase = .rx := rfl
@[simp] theorem State.startReceive_cur : (s.startReceive).cur = s.cur := rfl
@[simp] theorem State.startReceive_tMark : (s.startReceive).tMark = s.now := rfl
@[simp] theorem State.startReceive_cfg : (s.startReceive).cfg = s.cfg := rfl
@[simp] theorem State.startReceive_now : (s.startReceive).now = s.now := rfl
@[simp] theorem State.startReceive_rxFifo : (s.startReceive).rxFifo = s.rxFifo := rfl
@[simp] theorem State.startReceive_rxClosed : (s.startReceive).rxClosed = s.rxClosed := rfl
@[simp] theorem State.startReceive_rxError : (s.startReceive).rxError = s.rxError := rfl
@[simp] theorem State.startReceive_wireLog : (s.startReceive).wireLog = s.wireLog := rfl
@[simp] theorem State.startReceive_port : (s.startReceive).port = s.port := rfl
@[simp] theorem State.startReceive_drawCount : (s.startReceive).drawCount = s.drawCount := rfl
@[simp] theorem State.startReceive_pending : (s.startReceive).pending = s.pending := rfl

/-! ### `State.startSettle` -/

@[simp] theorem State.startSettle_busy : (s.startSettle).busy = s.busy := rfl
@[simp] theorem State.startSettle_done : (s.startSettle).done = s.done := rfl
@[simp] theorem State.startSettle_err : (s.startSettle).err = s.err := rfl
@[simp] theorem State.startSettle_errKind : (s.startSettle).errKind = s.errKind := rfl
@[simp] theorem State.startSettle_errSub : (s.startSettle).errSub = s.errSub := rfl
@[simp] theorem State.startSettle_link : (s.startSettle).link = s.link := rfl
@[simp] theorem State.startSettle_dcount : (s.startSettle).dcount = s.dcount := rfl
@[simp] theorem State.startSettle_data0 : (s.startSettle).data0 = s.data0 := rfl
@[simp] theorem State.startSettle_data1 : (s.startSettle).data1 = s.data1 := rfl
@[simp] theorem State.startSettle_rxLen : (s.startSettle).rxLen = s.rxLen := rfl
@[simp] theorem State.startSettle_crcAcc : (s.startSettle).crcAcc = s.crcAcc := rfl
@[simp] theorem State.startSettle_txBuf : (s.startSettle).txBuf = s.txBuf := rfl
@[simp] theorem State.startSettle_rxBuf : (s.startSettle).rxBuf = s.rxBuf := rfl
@[simp] theorem State.startSettle_phase : (s.startSettle).phase = .settle := rfl
@[simp] theorem State.startSettle_cur : (s.startSettle).cur = s.cur := rfl
@[simp] theorem State.startSettle_tMark : (s.startSettle).tMark = s.now := rfl
@[simp] theorem State.startSettle_cfg : (s.startSettle).cfg = s.cfg := rfl
@[simp] theorem State.startSettle_now : (s.startSettle).now = s.now := rfl
@[simp] theorem State.startSettle_rxFifo : (s.startSettle).rxFifo = s.rxFifo := rfl
@[simp] theorem State.startSettle_rxClosed : (s.startSettle).rxClosed = s.rxClosed := rfl
@[simp] theorem State.startSettle_rxError : (s.startSettle).rxError = s.rxError := rfl
@[simp] theorem State.startSettle_wireLog : (s.startSettle).wireLog = s.wireLog := rfl
@[simp] theorem State.startSettle_port : (s.startSettle).port = s.port := rfl
@[simp] theorem State.startSettle_drawCount : (s.startSettle).drawCount = s.drawCount := rfl
@[simp] theorem State.startSettle_pending : (s.startSettle).pending = s.pending := rfl

/-! ### `State.receive` -/

@[simp] theorem State.receive_busy (k : Nat) : (s.receive k).busy = s.busy := rfl
@[simp] theorem State.receive_done (k : Nat) : (s.receive k).done = s.done := rfl
@[simp] theorem State.receive_err (k : Nat) : (s.receive k).err = s.err := rfl
@[simp] theorem State.receive_errKind (k : Nat) : (s.receive k).errKind = s.errKind := rfl
@[simp] theorem State.receive_errSub (k : Nat) : (s.receive k).errSub = s.errSub := rfl
@[simp] theorem State.receive_link (k : Nat) : (s.receive k).link = s.link := rfl
@[simp] theorem State.receive_dcount (k : Nat) : (s.receive k).dcount = s.dcount := rfl
@[simp] theorem State.receive_data0 (k : Nat) : (s.receive k).data0 = s.data0 := rfl
@[simp] theorem State.receive_data1 (k : Nat) : (s.receive k).data1 = s.data1 := rfl
@[simp] theorem State.receive_rxLen (k : Nat) : (s.receive k).rxLen = BitVec.ofNat 4 k := rfl
@[simp] theorem State.receive_crcAcc (k : Nat) : (s.receive k).crcAcc = s.crcAcc := rfl
@[simp] theorem State.receive_txBuf (k : Nat) : (s.receive k).txBuf = s.txBuf := rfl
@[simp] theorem State.receive_rxBuf (k : Nat) :
    (s.receive k).rxBuf = s.rxFifo.take k ++ s.rxBuf.drop k := rfl
@[simp] theorem State.receive_phase (k : Nat) : (s.receive k).phase = .decode := rfl
@[simp] theorem State.receive_cur (k : Nat) : (s.receive k).cur = s.cur := rfl
@[simp] theorem State.receive_tMark (k : Nat) : (s.receive k).tMark = s.tMark := rfl
@[simp] theorem State.receive_cfg (k : Nat) : (s.receive k).cfg = s.cfg := rfl
@[simp] theorem State.receive_now (k : Nat) : (s.receive k).now = s.now := rfl
@[simp] theorem State.receive_rxFifo (k : Nat) : (s.receive k).rxFifo = s.rxFifo.drop k := rfl
@[simp] theorem State.receive_rxClosed (k : Nat) : (s.receive k).rxClosed = s.rxClosed := rfl
@[simp] theorem State.receive_rxError (k : Nat) : (s.receive k).rxError = s.rxError := rfl
@[simp] theorem State.receive_wireLog (k : Nat) :
    (s.receive k).wireLog = s.wireLog ++ [.rx (s.rxFifo.take k)] := rfl
@[simp] theorem State.receive_port (k : Nat) : (s.receive k).port = s.port := rfl
@[simp] theorem State.receive_drawCount (k : Nat) : (s.receive k).drawCount = s.drawCount := rfl
@[simp] theorem State.receive_pending (k : Nat) : (s.receive k).pending = s.pending := rfl

/-! ### `State.drawn` -/

@[simp] theorem State.drawn_busy : (s.drawn).busy = s.busy := rfl
@[simp] theorem State.drawn_done : (s.drawn).done = s.done := rfl
@[simp] theorem State.drawn_err : (s.drawn).err = s.err := rfl
@[simp] theorem State.drawn_errKind : (s.drawn).errKind = s.errKind := rfl
@[simp] theorem State.drawn_errSub : (s.drawn).errSub = s.errSub := rfl
@[simp] theorem State.drawn_link : (s.drawn).link = s.link := rfl
@[simp] theorem State.drawn_dcount : (s.drawn).dcount = s.dcount := rfl
@[simp] theorem State.drawn_data0 : (s.drawn).data0 = s.data0 := rfl
@[simp] theorem State.drawn_data1 : (s.drawn).data1 = s.data1 := rfl
@[simp] theorem State.drawn_rxLen : (s.drawn).rxLen = s.rxLen := rfl
@[simp] theorem State.drawn_crcAcc : (s.drawn).crcAcc = s.crcAcc := rfl
@[simp] theorem State.drawn_txBuf : (s.drawn).txBuf = s.txBuf := rfl
@[simp] theorem State.drawn_rxBuf : (s.drawn).rxBuf = s.rxBuf := rfl
@[simp] theorem State.drawn_phase : (s.drawn).phase = s.phase := rfl
@[simp] theorem State.drawn_cur : (s.drawn).cur = s.cur := rfl
@[simp] theorem State.drawn_tMark : (s.drawn).tMark = s.tMark := rfl
@[simp] theorem State.drawn_cfg : (s.drawn).cfg = s.cfg := rfl
@[simp] theorem State.drawn_now : (s.drawn).now = s.now := rfl
@[simp] theorem State.drawn_rxFifo : (s.drawn).rxFifo = s.rxFifo := rfl
@[simp] theorem State.drawn_rxClosed : (s.drawn).rxClosed = s.rxClosed := rfl
@[simp] theorem State.drawn_rxError : (s.drawn).rxError = s.rxError := rfl
@[simp] theorem State.drawn_wireLog : (s.drawn).wireLog = s.wireLog := rfl
@[simp] theorem State.drawn_port : (s.drawn).port = s.port := rfl
@[simp] theorem State.drawn_drawCount : (s.drawn).drawCount = s.drawCount + 1 := rfl
@[simp] theorem State.drawn_pending : (s.drawn).pending = s.pending.tail := rfl

/-! ### `State.resetBlock` -/

@[simp] theorem State.resetBlock_busy : (s.resetBlock).busy = State.reset.busy := rfl
@[simp] theorem State.resetBlock_done : (s.resetBlock).done = State.reset.done := rfl
@[simp] theorem State.resetBlock_err : (s.resetBlock).err = State.reset.err := rfl
@[simp] theorem State.resetBlock_errKind : (s.resetBlock).errKind = State.reset.errKind := rfl
@[simp] theorem State.resetBlock_errSub : (s.resetBlock).errSub = State.reset.errSub := rfl
@[simp] theorem State.resetBlock_link : (s.resetBlock).link = State.reset.link := rfl
@[simp] theorem State.resetBlock_dcount : (s.resetBlock).dcount = State.reset.dcount := rfl
@[simp] theorem State.resetBlock_data0 : (s.resetBlock).data0 = State.reset.data0 := rfl
@[simp] theorem State.resetBlock_data1 : (s.resetBlock).data1 = State.reset.data1 := rfl
@[simp] theorem State.resetBlock_rxLen : (s.resetBlock).rxLen = State.reset.rxLen := rfl
@[simp] theorem State.resetBlock_crcAcc : (s.resetBlock).crcAcc = State.reset.crcAcc := rfl
@[simp] theorem State.resetBlock_txBuf : (s.resetBlock).txBuf = State.reset.txBuf := rfl
@[simp] theorem State.resetBlock_rxBuf : (s.resetBlock).rxBuf = State.reset.rxBuf := rfl
@[simp] theorem State.resetBlock_phase : (s.resetBlock).phase = State.reset.phase := rfl
@[simp] theorem State.resetBlock_cur : (s.resetBlock).cur = State.reset.cur := rfl
@[simp] theorem State.resetBlock_tMark : (s.resetBlock).tMark = State.reset.tMark := rfl
@[simp] theorem State.resetBlock_cfg : (s.resetBlock).cfg = s.cfg := rfl
@[simp] theorem State.resetBlock_now : (s.resetBlock).now = s.now := rfl
@[simp] theorem State.resetBlock_rxFifo : (s.resetBlock).rxFifo = s.rxFifo := rfl
@[simp] theorem State.resetBlock_rxClosed : (s.resetBlock).rxClosed = s.rxClosed := rfl
@[simp] theorem State.resetBlock_rxError : (s.resetBlock).rxError = s.rxError := rfl
@[simp] theorem State.resetBlock_wireLog : (s.resetBlock).wireLog = s.wireLog := rfl
@[simp] theorem State.resetBlock_port : (s.resetBlock).port = s.port := rfl
@[simp] theorem State.resetBlock_drawCount : (s.resetBlock).drawCount = s.drawCount := rfl
@[simp] theorem State.resetBlock_pending : (s.resetBlock).pending = s.pending := rfl

end Sys2Proof.Machine
end

