-- ==== Sys2Proof/Laws/Ops.lean ====
section
/-!
SUPPORT. What each shared operation can do, said once.
-/

namespace Sys2Proof.Machine

/-- A command is held, rejected by its contract check, or carried out (R130, R131). -/
theorem command_cases (s : State) (c : Command) (act : State → State) :
    (s.phase ≠ .idle ∧ s.command c act = s) ∨
    (s.phase = .idle ∧ ∃ cause, check s.link c = some cause ∧
      s.command c act = (s.accept c).raise (.contractViolation cause)) ∨
    (s.phase = .idle ∧ check s.link c = none ∧ s.command c act = act (s.accept c)) := by
  unfold State.command
  by_cases h : s.phase = .idle
  · cases hc : check s.link c with
    | none => exact .inr (.inr ⟨h, rfl, by simp [h]⟩)
    | some cause => exact .inr (.inl ⟨h, cause, rfl, by simp [h]⟩)
  · exact .inl ⟨h, by simp [h]⟩

/-- A command in flight is held. -/
theorem command_of_busy {s : State} {c : Command} {act : State → State} (h : s.phase ≠ .idle) :
    s.command c act = s := by
  simp [State.command, h]

/-- A command that passes its checks is carried out. -/
theorem command_of_check {s : State} {c : Command} {act : State → State} (h : s.phase = .idle)
    (hc : check s.link c = none) : s.command c act = act (s.accept c) := by
  simp [State.command, h, hc]

/-- A command that fails a check ends there. -/
theorem command_of_reject {s : State} {c : Command} {act : State → State} {cause : ContractCause}
    (h : s.phase = .idle) (hc : check s.link c = some cause) :
    s.command c act = (s.accept c).raise (.contractViolation cause) := by
  simp [State.command, h, hc]

/-- The TX step logs the frame, and either waits for the reply or ends the command (R139). -/
theorem sendFrame_cases (s : State) (fr : Frame) :
    (s.draw.sendOk = true ∧ s.sendFrame fr = (s.logSend fr true).startReceive) ∨
    (s.draw.sendOk = false ∧
      s.sendFrame fr = (s.logSend fr false).raise (.transportFailure .sendFailed)) := by
  unfold State.sendFrame transportSend
  cases s.draw.sendOk with
  | true => exact .inl ⟨rfl, by simp⟩
  | false => exact .inr ⟨rfl, by simp⟩

/-- CONNECT logs the answer, and opens the link or fails (R134). -/
theorem connectAction_cases (s : State) :
    (s.draw.connectOk = true ∧ connectAction s =
      ({ s.logEvent (.connect true) with link := .opened }.freshChannel).postOk 0 0#16 0#16) ∨
    (s.draw.connectOk = false ∧ connectAction s =
      (s.logEvent (.connect false)).raise (.transportFailure .connectFailed)) := by
  unfold connectAction transportConnect
  cases s.draw.connectOk with
  | true => exact .inl ⟨rfl, by simp⟩
  | false => exact .inr ⟨rfl, by simp⟩

/-- Phase RX takes an enabled step, or waits when none is enabled (R209). -/
theorem rxPhase_cases (s : State) :
    (s.rxSteps = [] ∧ rxPhase s = s) ∨ (∃ a, s.rxEnabled a = true ∧ rxPhase s = s.rxStep a) := by
  unfold rxPhase
  cases h : s.rxSteps with
  | nil => exact .inl ⟨rfl, rfl⟩
  | cons first rest =>
    refine .inr ⟨_, ?_, rfl⟩
    have hlt : s.draw.rxChoice % (first :: rest).length < (first :: rest).length :=
      Nat.mod_lt _ (by simp)
    have hmem : (first :: rest).getD (s.draw.rxChoice % (first :: rest).length) first ∈ s.rxSteps := by
      rw [h, List.getD_eq_getElem _ _ hlt]
      exact List.getElem_mem _
    exact (List.mem_filter.mp hmem).2

/-- A receive takes at least one byte and at most ten, and no more than there are (R140). -/
theorem receiveLength_bounds {s : State} (h : s.rxFifo ≠ []) :
    1 ≤ s.receiveLength ∧ s.receiveLength ≤ 10 ∧ s.receiveLength ≤ s.rxFifo.length := by
  have hl : 0 < s.rxFifo.length := List.length_pos_of_ne_nil h
  have hm : 0 < min Config.replyBufLen s.rxFifo.length := by simp [Config.replyBufLen, hl]
  have hlt := Nat.mod_lt s.draw.recvLen hm
  simp only [State.receiveLength, Config.replyBufLen] at *
  omega

/-- Phase DECODE rejects the reply or starts the settle interval (R143, R144). -/
theorem decodePhase_cases (s : State) :
    (s.cur.op = fcRead ∧ ∃ c, decodePhase s = s.raise (.malformedReply c)) ∨
    (decodePhase s = s.startSettle ∧ (s.cur.op = fcRead →
      validateReadReply s.cfg.checkReplyCrc s.rxBuf s.rxLen.toNat s.cur.b.toNat = .ok)) := by
  unfold decodePhase
  by_cases h : s.cur.op = fcRead
  · cases hv : validateReadReply s.cfg.checkReplyCrc s.rxBuf s.rxLen.toNat s.cur.b.toNat with
    | ok => exact .inr ⟨by simp [h], fun _ => rfl⟩
    | short => exact .inl ⟨h, .short, by simp [h]⟩
    | badCrc => exact .inl ⟨h, .badCrc, by simp [h]⟩
  · exact .inr ⟨by simp [h], fun h' => absurd h' h⟩

/-- Phase SETTLE posts a result once the interval has passed, and waits before (R145). -/
theorem settlePhase_cases (s : State) :
    (s.elapsed s.cfg.settleMs = false ∧ settlePhase s = s) ∨
    (s.elapsed s.cfg.settleMs = true ∧ ∃ n d0 d1, settlePhase s = s.postOk n d0 d1 ∧
      (n = 0 ∨ (s.cur.op = fcRead ∧ n = s.cur.b.toNat))) := by
  unfold settlePhase
  cases he : s.elapsed s.cfg.settleMs with
  | false => exact .inl ⟨rfl, by simp⟩
  | true =>
    refine .inr ⟨rfl, ?_⟩
    by_cases h : s.cur.op = fcRead
    · exact ⟨_, _, _, by simp only [h, if_true]; rfl, .inr ⟨h, rfl⟩⟩
    · exact ⟨0, 0#16, 0#16, by simp [h], .inl rfl⟩

/-- What the block takes from the port (R130, R209). -/
theorem fetchCommand_cases (s : State) :
    (s.fetchCommand = none ∧ (s.phase = .idle → s.port = [])) ∨
    (s.phase = .idle ∧ ∃ w rest, s.port = w :: rest ∧
      s.fetchCommand = some (w, { s with port := rest })) ∨
    (s.phase ≠ .idle ∧ closeWord ∈ s.port ∧
      s.fetchCommand = some (closeWord, { s with port := s.port.erase closeWord })) := by
  unfold State.fetchCommand
  by_cases h : s.phase = .idle
  · cases hp : s.port with
    | nil => exact .inl ⟨by simp [h], fun _ => rfl⟩
    | cons w rest => exact .inr (.inl ⟨h, w, rest, rfl, by simp [h]⟩)
  · by_cases hc : closeWord ∈ s.port ∧ s.draw.abort = true
    · exact .inr (.inr ⟨h, hc.1, by simp [h, hc]⟩)
    · exact .inl ⟨by simp only [h, if_false, hc], fun h' => absurd h' h⟩

/-- The moves of the transport: nothing while the link is not open (R216). -/
theorem transportMove_cases (m : TransportMove) (s : State) :
    transportMove m s = s ∨ (s.link = .opened ∧
      ((∃ bs, transportMove m s = { s with rxFifo := s.rxFifo ++ bs }) ∨
        transportMove m s = { s with rxError := true } ∨
        transportMove m s = { s with rxClosed := true })) := by
  unfold transportMove
  by_cases h : s.link = .opened
  · cases m with
    | idle => exact .inl (by simp)
    | deliver bs => exact .inr ⟨h, .inl ⟨bs, by simp [h]⟩⟩
    | setError => exact .inr ⟨h, .inr (.inl (by simp [h]))⟩
    | setClosed => exact .inr ⟨h, .inr (.inr (by simp [h]))⟩
  · exact .inl (by simp [h])

/-- The moves of the host that answer a next state (R20, R43, R240). -/
theorem hostMove_cases {m : HostMove} {s t : State} (h : hostMove m s = .next t) :
    t = s ∨ (∃ w, t = { s with port := s.port ++ [w] }) ∨ (m = .reset ∧ t = s.resetBlock) := by
  cases m with
  | idle => exact .inl (by simpa [hostMove] using h.symm)
  | present w => exact .inr (.inl ⟨w, by simpa [hostMove] using h.symm⟩)
  | read r =>
    simp only [hostMove] at h
    split at h
    · exact .inl (by simpa using h.symm)
    · simp at h
  | reset => exact .inr (.inr ⟨rfl, by simpa [hostMove] using h.symm⟩)

/-- A step that answers a next state is some agent's move, its draw used up (R20). -/
theorem step_cases {s t : State} (h : step s = .next t) :
    ∃ u, t = u.drawn ∧
      ((s.draw.agent = .host ∧ hostMove s.draw.hostMove s = .next u) ∨
        (s.draw.agent = .block ∧ blockMove s = .next u) ∨
        (s.draw.agent = .transport ∧ u = transportMove s.draw.transportMove s) ∨
        (s.draw.agent = .clock ∧ u = clockMove s.draw.tick s)) := by
  unfold step at h
  cases hm : agentMove s with
  | next u =>
    rw [hm] at h
    refine ⟨u, (Host.Outcome.next.inj h).symm, ?_⟩
    unfold agentMove at hm
    split at hm
    · exact .inl ⟨‹_›, hm⟩
    · exact .inr (.inl ⟨‹_›, hm⟩)
    · exact .inr (.inr (.inl ⟨‹_›, (Host.Outcome.next.inj hm).symm⟩))
    · exact .inr (.inr (.inr ⟨‹_›, (Host.Outcome.next.inj hm).symm⟩))
  | fault f => rw [hm] at h; cases h
  | refused r => rw [hm] at h; cases h

end Sys2Proof.Machine
end

