-- ==== Sys2Proof/Laws/PerInstr.lean ====
section
/-!
SUPPORT. Statements made per instruction.
-/

namespace Sys2Proof.Laws.EncodedLength

/-- An instruction's encoding has the length of its kind, 5 bytes for a command word and 8 for a frame
(spec/30_encoding.md R86). -/
def Statement (i : Instr) : Prop := (encode i).length = i.byteLength

theorem connect (a b : Word) : Statement (.connect a b) := rfl

theorem close (a b : Word) : Statement (.close a b) := rfl

theorem readRegs (start count : Word) : Statement (.readRegs start count) := rfl

theorem writeReg (reg val : Word) : Statement (.writeReg reg val) := rfl

theorem crcInit (a b : Word) : Statement (.crcInit a b) := rfl

theorem crcFeed (a : Word) (bHi b : Byte) : Statement (.crcFeed a bHi b) := rfl

theorem frameWriteSingleRegister (addr : Byte) (reg val : Word) (crcLo crcHi : Byte) :
    Statement (.frameWriteSingleRegister addr reg val crcLo crcHi) := rfl

theorem frameReadRegisters (addr start count crcLo crcHi : Byte) :
    Statement (.frameReadRegisters addr start count crcLo crcHi) := rfl

theorem reservedOp (op : Byte) (a b : Word) : Statement (.reservedOp op a b) := rfl

end Sys2Proof.Laws.EncodedLength
end

