-- ==== Sys2Proof/Laws/Step.lean ====
section
/-!
SUPPORT. What a command word does from IDLE, and what the block's move can be, each said once.
-/

namespace Sys2Proof.Machine

/-- What the contract check lets through (R132). -/
theorem check_none {link : Link} {c : Command} (h : check link c = none) :
    isReservedOp c.op = false ∧ reservedFieldsClear c = true ∧
    (c.op = 0x02#8 ∨ c.op = 0x03#8 ∨ c.op = 0x06#8 → link = .opened) ∧
    (c.op = 0x01#8 → link ≠ .opened) ∧
    (c.op = 0x03#8 → (c.b = 1#16 ∨ c.b = 2#16) ∧ c.a.toNat ≤ 255) := by
  unfold check at h
  split_ifs at h with h1 h2 h3 h4 h5 h6 h7
  refine ⟨by simpa using h1, by simpa using h2, fun ho => ?_, fun ho hl => h4 ⟨ho, hl⟩, fun ho => ?_⟩
  · by_contra hl
    apply h3
    rcases ho with ho | ho | ho <;> simp [ho, hl, isTransactionOp]
  · have hb : c.b.toNat ≤ 2 := by
      by_contra hn
      exact h5 ⟨ho, by simp only [Config.maxRegsPerRead]; omega⟩
    have hz : c.b.toNat ≠ 0 := fun hn => h6 ⟨ho, BitVec.eq_of_toNat_eq (by simpa using hn)⟩
    refine ⟨?_, by by_contra hn; exact h7 ⟨ho, by omega⟩⟩
    rcases (by omega : c.b.toNat = 1 ∨ c.b.toNat = 2) with hc | hc
    · exact .inl (BitVec.eq_of_toNat_eq (by simpa using hc))
    · exact .inr (BitVec.eq_of_toNat_eq (by simpa using hc))

/-- A command word run from IDLE is one of the six commands, carried out, or is rejected (R131). -/
theorem exec_decodeCommand_cases {w : CmdWord} {s t : State} (hp : s.phase = .idle)
    (h : exec (decodeCommand w) s = .next t) :
    (decodeCommand w = .connect 0#16 0#16 ∧ s.link ≠ .opened ∧
      t = connectAction (s.accept ⟨0x01#8, 0#16, 0#16⟩)) ∨
    (decodeCommand w = .close 0#16 0#16 ∧ s.link = .opened ∧
      t = closeAction (s.accept ⟨0x02#8, 0#16, 0#16⟩)) ∨
    (∃ a b, decodeCommand w = .readRegs a b ∧ s.link = .opened ∧ (b = 1#16 ∨ b = 2#16) ∧
      a.toNat ≤ 255 ∧ t = (s.accept ⟨0x03#8, a, b⟩).startTransaction
        (readRequest (s.accept ⟨0x03#8, a, b⟩))) ∨
    (∃ a b, decodeCommand w = .writeReg a b ∧ s.link = .opened ∧
      t = (s.accept ⟨0x06#8, a, b⟩).startTransaction (writeRequest (s.accept ⟨0x06#8, a, b⟩))) ∨
    (decodeCommand w = .crcInit 0#16 0#16 ∧
      t = (s.accept ⟨0x10#8, 0#16, 0#16⟩).postCrc crcInitValue) ∨
    (∃ b, decodeCommand w = .crcFeed 0#16 0#8 b ∧
      t = (s.accept ⟨0x11#8, 0#16, 0#8 ++ b⟩).postCrc (crcStep s.crcAcc b)) ∨
    (∃ c cause, t = (s.accept c).raise (.contractViolation cause)) := by
  have held : ∀ {P : Prop}, s.phase ≠ .idle → P := fun hn => absurd hp hn
  unfold decodeCommand at h ⊢
  split_ifs at h ⊢ with h1 h2 h3 h4 h5 h6
  · simp only [exec, execConnect, Host.Outcome.next.injEq] at h
    rcases command_cases s ⟨0x01#8, aField w, bField w⟩ connectAction with
      ⟨hn, -⟩ | ⟨-, c, -, he⟩ | ⟨-, hc, he⟩
    · exact held hn
    · exact .inr (.inr (.inr (.inr (.inr (.inr ⟨_, c, h.symm.trans he⟩)))))
    · obtain ⟨-, hz, -, hl, -⟩ := check_none hc
      simp [reservedFieldsClear] at hz
      rw [hz.1, hz.2] at he ⊢
      exact .inl ⟨rfl, hl rfl, by rw [← h, hz.1, hz.2]; exact he⟩
  · simp only [exec, execClose, hp, ne_eq, not_true_eq_false, false_and, if_false,
      Host.Outcome.next.injEq] at h
    rcases command_cases s ⟨0x02#8, aField w, bField w⟩ closeAction with
      ⟨hn, -⟩ | ⟨-, c, -, he⟩ | ⟨-, hc, he⟩
    · exact held hn
    · exact .inr (.inr (.inr (.inr (.inr (.inr ⟨_, c, h.symm.trans he⟩)))))
    · obtain ⟨-, hz, hl, -, -⟩ := check_none hc
      simp [reservedFieldsClear] at hz
      exact .inr (.inl ⟨by rw [hz.1, hz.2], hl (.inl rfl), by rw [← h, he, hz.1, hz.2]⟩)
  · simp only [exec, execReadRegs, Host.Outcome.next.injEq] at h
    rcases command_cases s ⟨0x03#8, aField w, bField w⟩ (fun t => t.startTransaction (readRequest t))
      with ⟨hn, -⟩ | ⟨-, c, -, he⟩ | ⟨-, hc, he⟩
    · exact held hn
    · exact .inr (.inr (.inr (.inr (.inr (.inr ⟨_, c, h.symm.trans he⟩)))))
    · obtain ⟨-, -, hl, -, hr⟩ := check_none hc
      exact .inr (.inr (.inl ⟨_, _, rfl, hl (.inr (.inl rfl)), (hr rfl).1, (hr rfl).2,
        h.symm.trans he⟩))
  · simp only [exec, execWriteReg, Host.Outcome.next.injEq] at h
    rcases command_cases s ⟨0x06#8, aField w, bField w⟩ (fun t => t.startTransaction (writeRequest t))
      with ⟨hn, -⟩ | ⟨-, c, -, he⟩ | ⟨-, hc, he⟩
    · exact held hn
    · exact .inr (.inr (.inr (.inr (.inr (.inr ⟨_, c, h.symm.trans he⟩)))))
    · obtain ⟨-, -, hl, -, -⟩ := check_none hc
      exact .inr (.inr (.inr (.inl ⟨_, _, rfl, hl (.inr (.inr rfl)), h.symm.trans he⟩)))
  · simp only [exec, execCrcInit, Host.Outcome.next.injEq] at h
    rcases command_cases s ⟨0x10#8, aField w, bField w⟩ (fun t => t.postCrc crcInitValue)
      with ⟨hn, -⟩ | ⟨-, c, -, he⟩ | ⟨-, hc, he⟩
    · exact held hn
    · exact .inr (.inr (.inr (.inr (.inr (.inr ⟨_, c, h.symm.trans he⟩)))))
    · obtain ⟨-, hz, -, -, -⟩ := check_none hc
      simp [reservedFieldsClear] at hz
      exact .inr (.inr (.inr (.inr (.inl ⟨by rw [hz.1, hz.2], by rw [← h, he, hz.1, hz.2]⟩))))
  · simp only [exec, execCrcFeed, Host.Outcome.next.injEq] at h
    rcases command_cases s
      ⟨0x11#8, aField w, (bField w).extractLsb' 8 8 ++ (bField w).extractLsb' 0 8⟩
      (fun t => t.postCrc (crcStep t.crcAcc ((bField w).extractLsb' 0 8)))
      with ⟨hn, -⟩ | ⟨-, c, -, he⟩ | ⟨-, hc, he⟩
    · exact held hn
    · exact .inr (.inr (.inr (.inr (.inr (.inr ⟨_, c, h.symm.trans he⟩)))))
    · obtain ⟨-, hz, -, -, -⟩ := check_none hc
      simp only [reservedFieldsClear, extract_high_append] at hz
      simp at hz
      exact .inr (.inr (.inr (.inr (.inr (.inl ⟨(bField w).extractLsb' 0 8,
        by rw [hz.1, hz.2], by rw [← h, he, hz.1, hz.2]; simp⟩)))))
  · simp only [exec, execReservedOp, Host.Outcome.next.injEq] at h
    rcases command_cases s ⟨opField w, aField w, bField w⟩
      (fun t => t.raise (.contractViolation .illegalOp)) with ⟨hn, -⟩ | ⟨-, c, -, he⟩ | ⟨-, -, he⟩
    · exact held hn
    · exact .inr (.inr (.inr (.inr (.inr (.inr ⟨_, c, h.symm.trans he⟩)))))
    · exact .inr (.inr (.inr (.inr (.inr (.inr ⟨_, _, h.symm.trans he⟩)))))

/-- A frame that decodes is the frame its instruction stands for. -/
theorem decodeFrame_ok {f : Frame} {i : Instr} (h : decodeFrame f = .ok i) :
    (∃ r v, i = .frameWriteSingleRegister f.addr r v f.crcLo f.crcHi ∧
      f = writeFrameOf f.addr r v f.crcLo f.crcHi) ∨
    (∃ a n, i = .frameReadRegisters f.addr a n f.crcLo f.crcHi ∧
      f = readFrameOf f.addr a n f.crcLo f.crcHi) := by
  simp only [decodeFrame] at h
  split_ifs at h with h1 h2 h3 h4
  · refine .inl ⟨_, _, (Except.ok.inj h).symm, ?_⟩
    cases f
    simp_all [writeFrameOf, extract_high_append, extract_low_append]
  · refine .inr ⟨_, _, (Except.ok.inj h).symm, ?_⟩
    cases f
    simp_all [readFrameOf]

/-- In phase TX the block sends what stands in `TXBUF`, whatever it is. -/
theorem phaseStep_of_tx {s : State} (hp : s.phase = .tx) :
    phaseStep s = .next (s.sendFrame s.txBuf) := by
  simp only [phaseStep, hp]
  cases hd : decodeFrame s.txBuf with
  | error e => rfl
  | ok i =>
    rcases decodeFrame_ok hd with ⟨r, v, rfl, hf⟩ | ⟨a, n, rfl, hf⟩
    · simp only [exec, execFrameWriteSingleRegister, State.runFrame, hp, if_true]
      rw [← hf]
    · simp only [exec, execFrameReadRegisters, State.runFrame, hp, if_true]
      rw [← hf]

/-- The exact CLOSE word decodes to CLOSE. -/
theorem decodeCommand_closeWord : decodeCommand closeWord = .close 0#16 0#16 := by decide

/-- Everything a move of the block can be. -/
theorem blockMove_cases {s u : State} (h : blockMove s = .next u) :
    (s.phase = .idle ∧ s.port = [] ∧ u = s) ∨
    (∃ w rest, s.phase = .idle ∧ s.port = w :: rest ∧
      s.fetchCommand = some (w, { s with port := rest }) ∧
      exec (decodeCommand w) { s with port := rest } = .next u) ∨
    (s.phase ≠ .idle ∧ closeWord ∈ s.port ∧
      s.fetchCommand = some (closeWord, { s with port := s.port.erase closeWord }) ∧
      u = abortAction { s with port := s.port.erase closeWord }) ∨
    (s.fetchCommand = none ∧
      ((s.phase = .tx ∧ u = s.sendFrame s.txBuf) ∨ (s.phase = .rx ∧ u = rxPhase s) ∨
        (s.phase = .decode ∧ u = decodePhase s) ∨ (s.phase = .settle ∧ u = settlePhase s))) := by
  unfold blockMove at h
  rcases fetchCommand_cases s with ⟨hf, hq⟩ | ⟨hp, w, rest, hq, hf⟩ | ⟨hp, hm, hf⟩
  · rw [hf] at h
    cases hp : s.phase with
    | idle =>
      refine .inl ⟨rfl, hq hp, ?_⟩
      simpa [phaseStep, hp] using h.symm
    | tx =>
      refine .inr (.inr (.inr ⟨hf, .inl ⟨rfl, ?_⟩⟩))
      simpa [phaseStep_of_tx hp] using h.symm
    | rx =>
      refine .inr (.inr (.inr ⟨hf, .inr (.inl ⟨rfl, ?_⟩)⟩))
      simpa [phaseStep, hp] using h.symm
    | decode =>
      refine .inr (.inr (.inr ⟨hf, .inr (.inr (.inl ⟨rfl, ?_⟩))⟩))
      simpa [phaseStep, hp] using h.symm
    | settle =>
      refine .inr (.inr (.inr ⟨hf, .inr (.inr (.inr ⟨rfl, ?_⟩))⟩))
      simpa [phaseStep, hp] using h.symm
  · rw [hf] at h
    exact .inr (.inl ⟨w, rest, hp, hq, hf, h⟩)
  · rw [hf] at h
    refine .inr (.inr (.inl ⟨hp, hm, hf, ?_⟩))
    simpa [decodeCommand_closeWord, exec, execClose, hp] using h.symm

end Sys2Proof.Machine
end

