-- ==== Sys2Proof/Tests/Slice0.lean ====
section
/-!
SUPPORT. Tests from the spec's own vectors (spec/95_test_vectors.md), the checks of WellFormed refused one
by one, and for every statement with hypotheses a witness that meets them all.
-/

namespace Sys2Proof.Tests

open Sys2Proof Sys2Proof.Machine

/-! ### WellFormed: an ill-formed term for each check -/

theorem test_reserved_op_that_is_assigned_is_ill_formed :
    WellFormed (.reservedOp 0x06#8 0#16 0#16) = false := by decide

theorem test_write_frame_with_wrong_crc_low_is_ill_formed :
    WellFormed (.frameWriteSingleRegister 0x01#8 0#16 1200#16 0x8B#8 0xBE#8) = false := by decide +kernel

theorem test_write_frame_with_wrong_crc_high_is_ill_formed :
    WellFormed (.frameWriteSingleRegister 0x01#8 0#16 1200#16 0x8A#8 0xBF#8) = false := by decide +kernel

theorem test_read_frame_of_three_registers_is_ill_formed :
    WellFormed (.frameReadRegisters 0x01#8 0#8 3#8 (buildReadFrame 0x01#8 0#8 3#8).crcLo
      (buildReadFrame 0x01#8 0#8 3#8).crcHi) = false := by decide

theorem test_read_frame_of_no_register_is_ill_formed :
    WellFormed (.frameReadRegisters 0x01#8 0#8 0#8 (buildReadFrame 0x01#8 0#8 0#8).crcLo
      (buildReadFrame 0x01#8 0#8 0#8).crcHi) = false := by decide

theorem test_read_frame_with_wrong_crc_low_is_ill_formed :
    WellFormed (.frameReadRegisters 0x01#8 0#8 2#8 0xC5#8 0x0B#8) = false := by decide +kernel

theorem test_read_frame_with_wrong_crc_high_is_ill_formed :
    WellFormed (.frameReadRegisters 0x01#8 0#8 2#8 0xC4#8 0x0A#8) = false := by decide +kernel

/-! ### Decoding: words written out from R70 to R77 -/

/-- `01:0000:0000` (R134). -/
theorem test_decode_connect : decodeTableWord 40 0x0100000000 = some (.connect 0#16 0#16) := by decide

/-- `02:0000:0001` (L2-K14). -/
theorem test_decode_close : decodeTableWord 40 0x0200000001 = some (.close 0#16 1#16) := by decide

/-- `03:0100:0003` (L2-K8). -/
theorem test_decode_read_regs : decodeTableWord 40 0x0301000003 = some (.readRegs 256#16 3#16) := by
  decide

/-- `06:0000:04D2` (L1-5). -/
theorem test_decode_write_reg : decodeTableWord 40 0x06000004D2 = some (.writeReg 0#16 1234#16) := by
  decide

/-- `10:0001:0000` (L2-C11). -/
theorem test_decode_crc_init : decodeTableWord 40 0x1000010000 = some (.crcInit 1#16 0#16) := by decide

/-- `11:0000:0103`: `B[15:8]` and `B[7:0]` apart (R72). -/
theorem test_decode_crc_feed : decodeTableWord 40 0x1100000103 = some (.crcFeed 0#16 1#8 3#8) := by
  decide

/-- `12:0000:0000` (L2-K10). -/
theorem test_decode_reserved_op :
    decodeTableWord 40 0x1200000000 = some (.reservedOp 0x12#8 0#16 0#16) := by decide

/-- L2-F3. -/
theorem test_decode_write_frame :
    decode [0x01#8, 0x06#8, 0x00#8, 0x01#8, 0x03#8, 0xE8#8, 0xD8#8, 0xB4#8] =
      .ok (.frameWriteSingleRegister 0x01#8 1#16 1000#16 0xD8#8 0xB4#8) := by decide

/-- L2-F15. -/
theorem test_decode_read_frame :
    decode [0x01#8, 0x03#8, 0x00#8, 0xFF#8, 0x00#8, 0x02#8, 0xF4#8, 0x3B#8] =
      .ok (.frameReadRegisters 0x01#8 255#8 2#8 0xF4#8 0x3B#8) := by decide

/-- No frame of the block has another function code (R78). -/
theorem test_decode_rejects_function_code :
    decode [0x01#8, 0x10#8, 0#8, 0#8, 0#8, 0#8, 0#8, 0#8] = .error (.functionCode 0x10#8) := by decide

/-- Byte 2 of a read frame is 0x00 (R77). -/
theorem test_decode_rejects_start_high :
    decode [0x01#8, 0x03#8, 1#8, 0#8, 0#8, 2#8, 0#8, 0#8] = .error (.startHigh 1#8) := by decide

/-- Byte 4 of a read frame is 0x00 (R77). -/
theorem test_decode_rejects_count_high :
    decode [0x01#8, 0x03#8, 0#8, 0#8, 1#8, 2#8, 0#8, 0#8] = .error (.countHigh 1#8) := by decide

/-- Every encoding is 5 or 8 bytes (R86). -/
theorem test_decode_rejects_length : decode [0x01#8, 0x03#8] = .error (.wrongLength 2) := by decide

/-! ### The pure functions -/

/-- L2-C1 to L2-C5, L2-C7c. -/
theorem test_crc_vectors :
    crc16 [] = 0xFFFF#16 ∧ crc16 [0x00#8] = 0x40BF#16 ∧ crc16 [0xFF#8] = 0x00FF#16 ∧
    crc16 [0x01#8] = 0x807E#16 ∧ crc16 [0x41#8] = 0x707F#16 ∧ crc16 [0x01#8, 0x02#8] = 0xE181#16 := by
  decide

/-- L2-C6. -/
theorem test_crc_check_value :
    crc16 [0x31#8, 0x32#8, 0x33#8, 0x34#8, 0x35#8, 0x36#8, 0x37#8, 0x38#8, 0x39#8] = 0x4B37#16 := by
  decide +kernel

/-- L1-1. -/
theorem test_checksum_bytes_low_first :
    computeChecksum [0x01#8, 0x03#8, 0#8, 0#8, 0#8, 0x02#8] = (0xC4#8, 0x0B#8) := by decide +kernel

/-- L1-2. -/
theorem test_split_word : splitWord 1200#16 = (0x04#8, 0xB0#8) ∧ splitWord 255#16 = (0#8, 0xFF#8) := by
  decide

/-- L2-F1, L2-F7. -/
theorem test_write_frames :
    (buildWriteFrame 0x01#8 0#16 1200#16).bytes =
      [0x01#8, 0x06#8, 0x00#8, 0x00#8, 0x04#8, 0xB0#8, 0x8A#8, 0xBE#8] ∧
    (buildWriteFrame 0x01#8 0xFFFF#16 0xFFFF#16).bytes =
      [0x01#8, 0x06#8, 0xFF#8, 0xFF#8, 0xFF#8, 0xFF#8, 0x88#8, 0x5E#8] := by decide +kernel

/-- L2-F9, L2-F16. -/
theorem test_read_frames :
    (buildReadFrame 0x01#8 2#8 2#8).bytes =
      [0x01#8, 0x03#8, 0x00#8, 0x02#8, 0x00#8, 0x02#8, 0x65#8, 0xCB#8] ∧
    (buildReadFrame 0x02#8 0#8 2#8).bytes =
      [0x02#8, 0x03#8, 0x00#8, 0x00#8, 0x00#8, 0x02#8, 0xC4#8, 0x38#8] := by decide +kernel

/-- The reply of L2-F20. -/
def reply20 : List Byte :=
  [0x01#8, 0x03#8, 0x04#8, 0x04#8, 0xD2#8, 0x03#8, 0xE8#8, 0x5B#8, 0x84#8]

/-- L2-F20, L2-F27, L2-F28, L2-F30, L2-F31: one answer on each side of each boundary. -/
theorem test_validate_replies :
    validateReadReply true reply20 9 2 = .ok ∧
    validateReadReply true (reply20.take 8 ++ [0x85#8]) 9 2 = .badCrc ∧
    validateReadReply true (reply20.take 8) 8 2 = .short ∧
    validateReadReply false (reply20.take 7) 7 2 = .ok ∧
    validateReadReply false (reply20.take 6) 6 2 = .short := by decide +kernel

/-- L2-F20, L2-F24: high byte first, no sign extension. -/
theorem test_decode_replies :
    decodeReadReply reply20 2 = [1234#16, 1000#16] ∧
    decodeReadReply [0x01#8, 0x03#8, 0x04#8, 0xFF#8, 0xFF#8, 0#8, 0#8, 0xFA#8, 0x17#8] 2 =
      [65535#16, 0#16] := by decide

/-! ### The assembler (R84, R85) -/

theorem test_read_regs_defaults_to_one :
    (parseLine "READ_REGS 9".toList).bind assemble = some ⟨0x03#8, 9#16, 1#16⟩ := by decide

theorem test_hexadecimal_and_comment :
    parseLine "READ_REGS  0x10, 2 ; two".toList = some (.readRegs 16 (some 2)) := by decide

theorem test_operand_that_does_not_fit : assemble (.crcFeed 256) = none := by decide

/-- L3-P3: `setVoltage(12.34)` is `06:0000:04D2` and then the four reads of `refresh()`. -/
theorem test_set_voltage_commands :
    ((HostMacro.setVoltage 1234).lines.filterMap assemble).map Command.word =
      [0x06000004D2#40, 0x0300000002#40, 0x0300020002#40, 0x0300040002#40, 0x0300090001#40] := by decide

/-! ### Small states -/

/-- A draw with the block to move and every answer `ok`. -/
def blockDraw : Draw where
  agent := .block
  hostMove := .idle
  transportMove := .idle
  tick := 0
  connectOk := true
  sendOk := true
  recvLen := 0
  rxChoice := 0
  abort := false

/-- The configuration of the spec's vectors (spec/95_test_vectors.md, conventions). -/
def params : Params := ⟨0x01#8, 100, none, true, 0⟩

/-- After reset, with one draw laid down. -/
def fresh : State := { State.reset with cfg := params, pending := [blockDraw] }

/-- In IDLE with the link open. -/
def opened : State := { fresh with link := .opened }

/-- A read of two registers from 0 in flight, in phase TX. -/
def sending : State :=
  { opened with
    phase := .tx, busy := true, cur := ⟨0x03#8, 0#16, 2#16⟩, txBuf := buildReadFrame 0x01#8 0#8 2#8 }

/-- The same read in phase RX. -/
def receiving : State := { sending with phase := .rx, wireLog := [.tx sending.txBuf true] }

/-- The same read in phase DECODE with the reply of L2-F20. -/
def decoding : State := { receiving with phase := .decode, rxBuf := reply20 ++ [0#8], rxLen := 9#4 }

/-- The same read in phase SETTLE, 100 ms after its mark. -/
def settling : State := { decoding with phase := .settle, now := 100 }

/-- A write in phase DECODE after a reply of one byte. -/
def decodingWrite : State :=
  { decoding with
    cur := ⟨0x06#8, 0#16, 1200#16⟩, txBuf := buildWriteFrame 0x01#8 0#16 1200#16, rxLen := 1#4 }

/-- The state a step leaves, if it leaves one. -/
def after (s : State) : Option State :=
  match step s with
  | .next t => some t
  | .fault _ => none
  | .refused _ => none

/-- `s` with the host to move. -/
def hostNext (s : State) (m : HostMove) : State :=
  { s with pending := [{ blockDraw with agent := .host, hostMove := m }] }

/-- `s` with the transport to move. -/
def transportNext (s : State) (m : TransportMove) : State :=
  { s with pending := [{ blockDraw with agent := .transport, transportMove := m }] }

/-! ### One step of each instruction -/

/-- L2-K15. -/
theorem test_connect_ok : (after (fresh.withFetchWord 40 0x0100000000)).map State.status =
    some 0x1002#16 := by decide

/-- L2-K16. -/
theorem test_connect_fails :
    (after ({ fresh with pending := [{ blockDraw with connectOk := false }] }.withFetchWord 40
      0x0100000000)).map State.status = some 0x0526#16 := by decide

/-- L2-K17. -/
theorem test_close_in_idle : (after (opened.withFetchWord 40 0x0200000000)).map State.status =
    some 0x2002#16 := by decide

/-- L2-T17: the abort keeps `RXLEN`. -/
theorem test_close_aborts :
    (after { settling with
      port := [closeWord], pending := [{ blockDraw with abort := true }] }).map
      (fun t => (t.status, t.rxLen)) = some (0x2426#16, 9#4) := by decide

/-- L2-F8. -/
theorem test_read_regs_builds_its_frame :
    (after (opened.withFetchWord 40 0x0300000002)).map (fun t => (t.status, t.txBuf.bytes)) =
      some (0x1001#16, [0x01#8, 0x03#8, 0#8, 0#8, 0#8, 0x02#8, 0xC4#8, 0x0B#8]) := by decide +kernel

/-- L2-K8: the count is checked before the start. -/
theorem test_read_regs_two_range_errors :
    (after (opened.withFetchWord 40 0x0301000003)).map State.status = some 0x1516#16 := by decide

/-- L2-F2. -/
theorem test_write_reg_builds_its_frame :
    (after (opened.withFetchWord 40 0x06000004D2)).map (fun t => (t.status, t.txBuf.bytes)) =
      some (0x1001#16, [0x01#8, 0x06#8, 0#8, 0#8, 0x04#8, 0xD2#8, 0x0B#8, 0x57#8]) := by decide +kernel

/-- L2-K2, from reset itself: the outcome rests on no free value. -/
theorem test_write_reg_before_connect :
    (after (State.reset.withFetchWord 40 0x06000004D2)).map State.status = some 0x0316#16 := by decide

/-- L2-C11, first row. -/
theorem test_crc_init :
    (after ({ fresh with crcAcc := 0x1234#16 }.withFetchWord 40 0x1000000000)).map
      (fun t => (t.status, t.crcAcc, t.data0)) = some (0x4002#16, 0xFFFF#16, 0xFFFF#16) := by decide

/-- L2-C11, fourth row. -/
theorem test_crc_init_reserved_field :
    (after ({ fresh with crcAcc := 0x1234#16 }.withFetchWord 40 0x1000010000)).map
      (fun t => (t.status, t.crcAcc)) = some (0x0216#16, 0x1234#16) := by decide

/-- L2-C11, last row. -/
theorem test_crc_feed_continues :
    (after ({ fresh with crcAcc := 0x1234#16 }.withFetchWord 40 0x1100000000)).map
      (fun t => (t.status, t.crcAcc, t.data0)) = some (0x4002#16, 0xD713#16, 0xD713#16) := by decide

/-- L2-C11, fifth row. -/
theorem test_crc_feed_reserved_field :
    (after (fresh.withFetchWord 40 0x1100000100)).map State.status = some 0x0216#16 := by decide

/-- L2-K12. -/
theorem test_reserved_op : (after (fresh.withFetchWord 40 0xFFFFFFFFFF)).map State.status =
    some 0x0116#16 := by decide

/-- L2-T2, the TX event. -/
theorem test_read_frame_sent :
    (after (opened.withFetchWord 64 0x010300000002C40B)).map (fun t => (t.phase, t.wireLog)) =
      some (.rx, [.tx ⟨0x01#8, 0x03#8, 0#8, 0#8, 0#8, 0x02#8, 0xC4#8, 0x0B#8⟩ true]) := by decide

/-- L2-T4. -/
theorem test_write_frame_refused :
    (after ({ opened with pending := [{ blockDraw with sendOk := false }] }.withFetchWord 64
      0x0106000900019808)).map (fun t => (t.status, t.phase)) = some (0x1126#16, .idle) := by decide

/-! ### The phases and the other agents -/

/-- L2-T14: a receive of 4 of the 9 bytes. -/
theorem test_receive_four_bytes :
    (after { receiving with rxFifo := reply20, pending := [{ blockDraw with recvLen := 3 }] }).map
      (fun t => (t.rxLen, t.rxFifo)) = some (4#4, [0xD2#8, 0x03#8, 0xE8#8, 0x5B#8, 0x84#8]) := by
  decide

/-- L2-T10. -/
theorem test_short_reply : (after { decoding with rxLen := 8#4 }).map
    (fun t => (t.status, t.rxLen)) = some (0x1136#16, 8#4) := by decide

/-- L2-T2. -/
theorem test_settle_posts : (after settling).map
    (fun t => (t.status, t.data0, t.data1)) = some (0x9002#16, 1234#16, 1000#16) := by decide

/-- L1-11: one millisecond before the settle interval is over. -/
theorem test_settle_waits : (after { settling with now := 99 }).map State.phase = some .settle := by
  decide

/-- L2-T7: not at 49 ms, possible at 50 ms. -/
theorem test_deadline :
    (after { receiving with cfg := { params with readDeadlineMs := some 50 }, now := 49 }).map
      State.status = some 0x1001#16 ∧
    (after { receiving with cfg := { params with readDeadlineMs := some 50 }, now := 50 }).map
      State.status = some 0x1146#16 := by decide

/-- L2-K20: CLOSE with a non-zero field is held. -/
theorem test_inexact_close_is_held :
    (after { receiving with
      port := [0x0200000001#40], pending := [{ blockDraw with abort := true }] }).map
      (fun t => (t.status, t.port)) = some (0x1001#16, [0x0200000001#40]) := by decide

/-- L2-R2. -/
theorem test_reset_in_flight : (after (hostNext receiving .reset)).map
    (fun t => (t.status, t.crcAcc, t.wireLog)) =
      some (0#16, 0xFFFF#16, receiving.wireLog) := by decide +kernel

/-- R28: a data word at `DCOUNT` is a fault. -/
theorem test_read_of_a_word_without_value :
    step (hostNext { opened with dcount := 1#2 } (.read .data1)) =
      .fault (.dataWordHoldsNoValue .data1) := rfl

/-! ### Witnesses: for each statement with hypotheses, a state and operands that meet them all

A statement with several clauses has one for each, at a boundary value where there is one. -/

/-- The invariant holds in phase TX of a read. -/
theorem sending_inv : sending.Inv := by
  refine ⟨⟨by decide, by decide, by decide, fun h => absurd h (by decide), by decide, by decide⟩, ?_⟩
  unfold State.TransactionOk RequestOk requestFrame
  decide +kernel

/-- The invariant holds in phase RX of a read. -/
theorem receiving_inv : receiving.Inv := by
  refine ⟨⟨by decide, by decide, by decide, fun h => absurd h (by decide), by decide, by decide⟩, ?_⟩
  unfold State.TransactionOk RequestOk requestFrame
  decide +kernel

/-- The invariant holds in phase DECODE of a read. -/
theorem decoding_inv : decoding.Inv := by
  refine ⟨⟨by decide, by decide, by decide, fun h => absurd h (by decide), by decide, by decide⟩, ?_⟩
  unfold State.TransactionOk RequestOk requestFrame
  decide +kernel

/-- A read frame that was sent is valid. -/
theorem receiving_frames : receiving.WireFramesOk := by
  intro f ok h
  simp only [receiving, List.mem_singleton, WireEvent.tx.injEq] at h
  obtain ⟨rfl, -⟩ := h
  unfold FrameValid
  decide +kernel

theorem witness_CrcResidueIsZero :
    receiving.WireFramesOk ∧ WireEvent.tx sending.txBuf true ∈ receiving.wireLog :=
  ⟨receiving_frames, by decide +kernel⟩

theorem witness_FeedingBytesComputesCrcSixteen : fresh.phase = .idle := rfl

/-- `k` at the length of the reply, and above it. -/
theorem witness_CompleteReplyDecodesToItsValues :
    (replyOf 0x01#8 0x03#8 0x04#8 [1234#16, 1000#16]).length ≤ 9 ∧
    (replyOf 0x01#8 0x03#8 0x02#8 [1#16]).length ≤ 10 := by decide

/-- The reply of a statement is the spec's own (L2-F20). -/
theorem test_replyOf_is_the_spec_reply :
    replyOf 0x01#8 0x03#8 0x04#8 [1234#16, 1000#16] = reply20 := by decide +kernel

theorem witness_DecodeOfEncode :
    WellFormed (.connect 0xFFFF#16 0#16) = true ∧ WellFormed (.close 0#16 0xFFFF#16) = true ∧
    WellFormed (.readRegs 255#16 2#16) = true ∧ WellFormed (.writeReg 0xFFFF#16 0xFFFF#16) = true ∧
    WellFormed (.crcInit 0#16 0#16) = true ∧ WellFormed (.crcFeed 0#16 0xFF#8 0xFF#8) = true ∧
    WellFormed (.frameWriteSingleRegister 0x01#8 0#16 1200#16 0x8A#8 0xBE#8) = true ∧
    WellFormed (.frameReadRegisters 0x01#8 0#8 2#8 0xC4#8 0x0B#8) = true ∧
    WellFormed (.reservedOp 0x00#8 0#16 0#16) = true := by decide +kernel

theorem witness_EncodeOfDecode :
    decode [0x06#8, 0x00#8, 0x00#8, 0x04#8, 0xD2#8] = .ok (.writeReg 0#16 1234#16) ∧
    decode [0x01#8, 0x03#8, 0x00#8, 0x00#8, 0x00#8, 0x02#8, 0xC4#8, 0x0B#8] =
      .ok (.frameReadRegisters 0x01#8 0#8 2#8 0xC4#8 0x0B#8) := by decide

/-- Each end of each range of R73, and the codes beside them. -/
theorem witness_ReservedOperationCodesAreThoseListed :
    decodeCommand 0x0000000000#40 = .reservedOp 0x00#8 0#16 0#16 ∧
    decodeCommand 0x0400000000#40 = .reservedOp 0x04#8 0#16 0#16 ∧
    decodeCommand 0x0500000000#40 = .reservedOp 0x05#8 0#16 0#16 ∧
    decodeCommand 0x0700000000#40 = .reservedOp 0x07#8 0#16 0#16 ∧
    decodeCommand 0x0F00000000#40 = .reservedOp 0x0F#8 0#16 0#16 ∧
    decodeCommand 0x1200000000#40 = .reservedOp 0x12#8 0#16 0#16 ∧
    decodeCommand 0xFF00000000#40 = .reservedOp 0xFF#8 0#16 0#16 ∧
    decodeCommand 0x0300000000#40 = .readRegs 0#16 0#16 ∧
    decodeCommand 0x0600000000#40 = .writeReg 0#16 0#16 ∧
    decodeCommand 0x1000000000#40 = .crcInit 0#16 0#16 ∧
    decodeCommand 0x1100000000#40 = .crcFeed 0#16 0#8 0#8 := by decide

/-- Each clause at the last value of its range and the first beyond it. -/
theorem witness_AssembledLinesDecode :
    assemble (.readRegs 65535 (some 65535)) = some ⟨0x03#8, 0xFFFF#16, 0xFFFF#16⟩ ∧
    assemble (.readRegs 65535 none) = some ⟨0x03#8, 0xFFFF#16, 1#16⟩ ∧
    assemble (.writeReg 65535 65535) = some ⟨0x06#8, 0xFFFF#16, 0xFFFF#16⟩ ∧
    assemble (.crcFeed 255) = some ⟨0x11#8, 0#16, 0x00FF#16⟩ ∧ assemble (.crcFeed 256) = none ∧
    assemble (.readRegs 65536 (some 0)) = none ∧ assemble (.readRegs 0 (some 65536)) = none ∧
    assemble (.writeReg 65536 0) = none ∧ assemble (.writeReg 0 65536) = none := by decide

/-- A reserved field, an open link, and the transport's two answers; and in flight. -/
theorem witness_ConnectOpensOrFails :
    (fresh.phase = .idle ∧ fresh.link ≠ .opened ∧ fresh.draw.connectOk = true) ∧
    (opened.phase = .idle ∧ opened.link = .opened) ∧
    ({ fresh with pending := [{ blockDraw with connectOk := false }] }.phase = .idle ∧
      { fresh with pending := [{ blockDraw with connectOk := false }] }.draw.connectOk = false) ∧
    sending.phase ≠ .idle := by decide

theorem witness_CloseFromIdleClosesTheLink : opened.phase = .idle ∧ opened.link = .opened := ⟨rfl, rfl⟩

theorem witness_CloseInFlightAborts :
    sending.phase ≠ .idle ∧ receiving.phase ≠ .idle ∧ decoding.phase ≠ .idle ∧ settling.phase ≠ .idle := by
  decide

theorem witness_WriteRegStartsATransaction : opened.phase = .idle ∧ opened.link = .opened := ⟨rfl, rfl⟩

/-- Both counts and both ends of the start range. -/
theorem witness_ReadRegsStartsATransaction :
    opened.phase = .idle ∧ opened.link = .opened ∧
    (1 ≤ (1#16).toNat ∧ (1#16).toNat ≤ 2 ∧ (0#16).toNat ≤ 255) ∧
    (1 ≤ (2#16).toNat ∧ (2#16).toNat ≤ 2 ∧ (255#16).toNat ≤ 255) := by decide

theorem witness_CrcInitLoadsAllOnes :
    fresh.phase = .idle ∧ opened.phase = .idle ∧ sending.phase ≠ .idle := by decide

theorem witness_CrcFeedAdvancesTheAccumulator : fresh.phase = .idle ∧ opened.phase = .idle :=
  ⟨rfl, rfl⟩

/-- Each end of each range of R73. -/
theorem witness_ReservedOperationPostsIllegalOp :
    fresh.phase = .idle ∧
    (0x07 ≤ (0x07#8).toNat ∧ (0x07#8).toNat ≤ 0x0F) ∧ (0x07 ≤ (0x0F#8).toNat ∧ (0x0F#8).toNat ≤ 0x0F) ∧
    (0x12 ≤ (0x12#8).toNat ∧ (0x12#8).toNat ≤ 0xFF) ∧ (0x12 ≤ (0xFF#8).toNat ∧ (0xFF#8).toNat ≤ 0xFF) := by
  decide

/-- With the transport's two answers. -/
theorem witness_WriteFrameIsSent :
    sending.phase = .tx ∧ sending.draw.sendOk = true ∧
    { sending with pending := [{ blockDraw with sendOk := false }] }.draw.sendOk = false := by decide

/-- With the transport's two answers. -/
theorem witness_ReadFrameIsSent :
    sending.phase = .tx ∧ sending.draw.sendOk = true ∧
    { sending with pending := [{ blockDraw with sendOk := false }] }.draw.sendOk = false := by decide

/-- A command of each kind, in the link states of the table (R132). -/
theorem witness_ContractCheckFollowsItsTable :
    WellFormed (.readRegs 256#16 3#16) = true ∧
    (Instr.readRegs 256#16 3#16).command? = some ⟨0x03#8, 256#16, 3#16⟩ ∧
    contractFailure .opened (.readRegs 256#16 3#16) = some .countTooLarge ∧
    contractFailure .opened (.readRegs 256#16 2#16) = some .startRange ∧
    contractFailure .opened (.readRegs 255#16 2#16) = none ∧
    contractFailure .opened (.readRegs 256#16 0#16) = some .countZero ∧
    contractFailure .closed (.readRegs 0#16 5#16) = some .notOpen ∧
    contractFailure .closed (.connect 1#16 0#16) = some .reservedField := by decide

/-- One instruction for each cause of R202. -/
theorem witness_FailedCheckDoesNoWork :
    fresh.phase = .idle ∧ opened.phase = .idle ∧
    (WellFormed (.reservedOp 0x12#8 0#16 0#16) = true ∧
      (Instr.reservedOp 0x12#8 0#16 0#16).command? = some ⟨0x12#8, 0#16, 0#16⟩ ∧
      contractFailure fresh.link (.reservedOp 0x12#8 0#16 0#16) = some .illegalOp) ∧
    (WellFormed (.close 0#16 1#16) = true ∧ (Instr.close 0#16 1#16).command? = some ⟨0x02#8, 0#16, 1#16⟩ ∧
      contractFailure opened.link (.close 0#16 1#16) = some .reservedField) ∧
    (WellFormed (.writeReg 0#16 0#16) = true ∧
      (Instr.writeReg 0#16 0#16).command? = some ⟨0x06#8, 0#16, 0#16⟩ ∧
      contractFailure fresh.link (.writeReg 0#16 0#16) = some .notOpen) ∧
    (WellFormed (.connect 0#16 0#16) = true ∧
      (Instr.connect 0#16 0#16).command? = some ⟨0x01#8, 0#16, 0#16⟩ ∧
      contractFailure opened.link (.connect 0#16 0#16) = some .alreadyOpen) ∧
    (WellFormed (.readRegs 0#16 3#16) = true ∧
      (Instr.readRegs 0#16 3#16).command? = some ⟨0x03#8, 0#16, 3#16⟩ ∧
      contractFailure opened.link (.readRegs 0#16 3#16) = some .countTooLarge) ∧
    (WellFormed (.readRegs 0#16 0#16) = true ∧
      (Instr.readRegs 0#16 0#16).command? = some ⟨0x03#8, 0#16, 0#16⟩ ∧
      contractFailure opened.link (.readRegs 0#16 0#16) = some .countZero) ∧
    (WellFormed (.readRegs 256#16 2#16) = true ∧
      (Instr.readRegs 256#16 2#16).command? = some ⟨0x03#8, 256#16, 2#16⟩ ∧
      contractFailure opened.link (.readRegs 256#16 2#16) = some .startRange) := by decide

theorem witness_CommandInFlightChangesNothing :
    (receiving.phase ≠ .idle ∧
      (Instr.close 0#16 1#16).command? = some ⟨0x02#8, 0#16, 1#16⟩ ∧
      Instr.close 0#16 1#16 ≠ .close 0#16 0#16) ∧
    (receiving.phase ≠ .tx ∧ (Instr.frameReadRegisters 0x01#8 0#8 2#8 0xC4#8 0x0B#8).command? = none) := by
  decide

theorem witness_StepRunsThePresentedCommand :
    { opened with port := [0x06000004D2#40] }.draw.agent = .block ∧
    { opened with port := [0x06000004D2#40] }.phase = .idle ∧
    { opened with port := [0x06000004D2#40] }.port = [0x06000004D2#40] := ⟨rfl, rfl, rfl⟩

/-- It is the block's turn to take the step of its phase. -/
theorem sending_turn : sending.PhaseTurn := ⟨rfl, rfl⟩

theorem witness_StepRunsTheFrameInTxbuf :
    sending.PhaseTurn ∧ sending.phase = .tx ∧
    decodeFrame sending.txBuf = .ok (.frameReadRegisters 0x01#8 0#8 2#8 0xC4#8 0x0B#8) :=
  ⟨sending_turn, rfl, by decide +kernel⟩

/-- A transaction waiting in RX with a CLOSE presented behind a held command, which the draw takes. -/
def closing : State :=
  { receiving with
    port := [0x0300020002#40, 0x0200000000#40], pending := [{ blockDraw with abort := true }] }

theorem witness_StepTakesAPresentedClose :
    closing.draw.agent = .block ∧ closing.phase ≠ .idle ∧ 0x0200000000#40 ∈ closing.port ∧
    closing.draw.abort = true := by decide

/-- A step that takes a CLOSE, and one that takes none. -/
theorem witness_HeldWordsStayPresented :
    (∃ t, closing.draw.agent = .block ∧ closing.phase ≠ .idle ∧ step closing = .next t) ∧
    (∃ t, sending.draw.agent = .block ∧ sending.phase ≠ .idle ∧ step sending = .next t) :=
  ⟨⟨_, rfl, by decide, rfl⟩, ⟨_, rfl, by decide, rfl⟩⟩

theorem witness_TxPhaseSendsTxbuf : sending.PhaseTurn ∧ sending.phase = .tx := ⟨sending_turn, rfl⟩

/-- A receive of one byte, and one of ten out of eleven. -/
theorem witness_ReceiveTakesAPrefixOfTheFifo :
    (∃ t, { receiving with rxFifo := [0x01#8] }.phase = .rx ∧
      step { receiving with rxFifo := [0x01#8] } = .next t ∧ t.phase = .decode) ∧
    (∃ t, step { receiving with
        rxFifo := List.replicate 11 0x01#8, pending := [{ blockDraw with recvLen := 9 }] } = .next t ∧
      t.phase = .decode ∧ t.rxLen = 10#4) :=
  ⟨⟨_, rfl, rfl, rfl⟩, ⟨_, rfl, rfl, by decide⟩⟩

/-- One byte, and ten of eleven. -/
theorem witness_EveryReceiveLengthMayHappen :
    receiving.port = [] ∧
    (1 ≤ 1 ∧ 1 ≤ 10 ∧ { receiving with rxFifo := [0x01#8] }.phase = .rx ∧
      1 ≤ { receiving with rxFifo := [0x01#8] }.rxFifo.length) ∧
    (1 ≤ 10 ∧ 10 ≤ 10 ∧ 10 ≤ { receiving with rxFifo := List.replicate 11 0x01#8 }.rxFifo.length) := by
  decide

/-- Phase RX with every failure enabled at once, and the deadline just reached. -/
def failing : State :=
  { receiving with
    rxError := true, rxClosed := true, cfg := { params with readDeadlineMs := some 50 }, now := 50 }

theorem witness_EveryEnabledReceiveFailureMayBeTaken :
    failing.phase = .rx ∧ failing.port = [] ∧ failing.rxError = true ∧
    (failing.rxClosed = true ∧ failing.rxFifo = []) ∧
    ∃ ms, failing.cfg.readDeadlineMs = some ms ∧ ms ≤ failing.now - failing.tMark :=
  ⟨rfl, rfl, rfl, ⟨rfl, rfl⟩, 50, rfl, by decide⟩

theorem witness_TimeoutIsNeverEarly :
    ∃ t, { failing with rxError := false, rxClosed := false }.done = false ∧
      step { failing with rxError := false, rxClosed := false } = .next t ∧
      t.done = true ∧ t.errKind = 4#4 := ⟨_, rfl, rfl, rfl, rfl⟩

/-- The block waits; a presented CLOSE leaves RX; the clock moves. -/
theorem witness_SilentDeviceHangsTheReceive :
    (receiving.phase = .rx ∧ receiving.cfg.readDeadlineMs = none ∧ receiving.rxFifo = [] ∧
      receiving.rxError = false ∧ receiving.rxClosed = false ∧ receiving.PhaseTurn) ∧
    (∃ t, closing.phase = .rx ∧ closing.cfg.readDeadlineMs = none ∧ closing.rxFifo = [] ∧
      closing.rxError = false ∧ closing.rxClosed = false ∧ step closing = .next t ∧ t.phase ≠ .rx) ∧
    (∃ t, step { receiving with pending := [{ blockDraw with agent := .clock }] } = .next t ∧
      { receiving with pending := [{ blockDraw with agent := .clock }] }.draw.agent ≠ .transport) :=
  ⟨⟨rfl, rfl, rfl, rfl, rfl, rfl, rfl⟩, ⟨_, rfl, rfl, rfl, rfl, rfl, rfl, by decide⟩,
    ⟨_, rfl, by decide⟩⟩

theorem witness_DecodeOfAWriteStartsTheSettle :
    decodingWrite.PhaseTurn ∧ decodingWrite.phase = .decode ∧ decodingWrite.cur.op = 0x06#8 :=
  ⟨⟨rfl, rfl⟩, rfl, rfl⟩

/-- With each of the three answers of the check. -/
theorem witness_DecodeOfAReadChecksTheReply :
    decoding.PhaseTurn ∧ decoding.phase = .decode ∧ decoding.cur.op = 0x03#8 ∧
    validateReadReply decoding.cfg.checkReplyCrc decoding.rxBuf 9 2 = .ok ∧
    validateReadReply decoding.cfg.checkReplyCrc decoding.rxBuf 8 2 = .short ∧
    validateReadReply decoding.cfg.checkReplyCrc (reply20.take 8 ++ [0x85#8, 0#8]) 9 2 = .badCrc :=
  ⟨⟨rfl, rfl⟩, rfl, rfl, by decide +kernel, by decide, by decide +kernel⟩

/-- The interval just over, one millisecond before that, and a write. -/
theorem witness_SettleWaitsThenPosts :
    (settling.PhaseTurn ∧ settling.phase = .settle ∧ RequestOk settling.cur ∧
      ¬ settling.now - settling.tMark < settling.cfg.settleMs) ∧
    ({ settling with now := 99 }.PhaseTurn ∧
      { settling with now := 99 }.now - settling.tMark < settling.cfg.settleMs) ∧
    ({ decodingWrite with phase := .settle, now := 100 }.PhaseTurn ∧ RequestOk decodingWrite.cur) :=
  ⟨⟨⟨rfl, rfl⟩, rfl, .inr ⟨rfl, by decide, .inr rfl⟩, by decide⟩, ⟨⟨rfl, rfl⟩, by decide⟩,
    ⟨⟨rfl, rfl⟩, .inl rfl⟩⟩

theorem witness_SuccessIsNeverPostedBeforeTheSettle :
    ∃ t, settling.phase ≠ .idle ∧ settling.done = false ∧ step settling = .next t ∧ t.done = true ∧
      t.err = false := ⟨_, by decide, rfl, rfl, by decide, by decide⟩

/-- A register that always has a value, and a data word on each side of `DCOUNT`. -/
theorem witness_HostReadsChangeNothing :
    (hostNext opened (.read .status)).draw.agent = .host ∧
    (hostNext opened (.read .status)).draw.hostMove = .read .status ∧
    (hostNext opened (.read .status)).hostRead .status = .ok 0x1000#16 ∧
    (hostNext { opened with dcount := 1#2, data0 := 7#16 } (.read .data0)).hostRead .data0 = .ok 7#16 ∧
    (hostNext { opened with dcount := 1#2 } (.read .data1)).hostRead .data1 =
      .error (.dataWordHoldsNoValue .data1) ∧
    (hostNext opened (.read .data0)).hostRead .data0 = .error (.dataWordHoldsNoValue .data0) :=
  ⟨rfl, rfl, rfl, rfl, rfl, rfl⟩

theorem witness_ResetKeepsTimeAndLog :
    ∃ t, (hostNext settling .reset).TakesReset ∧ step (hostNext settling .reset) = .next t :=
  ⟨_, ⟨rfl, rfl⟩, rfl⟩

theorem witness_ResetPutsTheBlockInIdle : (hostNext settling .reset).TakesReset := ⟨rfl, rfl⟩

/-- Each move, with the link open and not open. -/
theorem witness_TransportMovesTouchOnlyItsChannel :
    (transportNext receiving (.deliver reply20)).draw.agent = .transport ∧
    (transportNext receiving (.deliver reply20)).draw.transportMove = .deliver reply20 ∧
    (transportNext receiving (.deliver reply20)).link = .opened ∧
    (transportNext receiving .setError).draw.transportMove = .setError ∧
    (transportNext receiving .setClosed).draw.transportMove = .setClosed ∧
    (transportNext receiving .idle).draw.transportMove = .idle ∧
    (transportNext fresh .setClosed).draw.agent = .transport ∧
    (transportNext fresh .setClosed).link ≠ .opened := by decide

theorem witness_StepKeepsTheInvariant : ∃ t, sending.Inv ∧ step sending = .next t :=
  ⟨_, sending_inv, rfl⟩

/-- A step that logs a frame, and one that keeps the log. -/
theorem witness_StepKeepsWireFramesValid :
    (∃ t, sending.Inv ∧ sending.WireFramesOk ∧ step sending = .next t) ∧
    (∃ t, receiving.Inv ∧ receiving.WireFramesOk ∧ step receiving = .next t) :=
  ⟨⟨_, sending_inv, fun _ _ h => absurd h (List.not_mem_nil), rfl⟩,
    ⟨_, receiving_inv, receiving_frames, rfl⟩⟩

/-- A step that logs a receive after the frame it answers. -/
theorem witness_StepKeepsReceivesAfterSends :
    ∃ t, { receiving with rxFifo := reply20 }.WireOrderOk ∧
      step { receiving with rxFifo := reply20 } = .next t :=
  ⟨_, ⟨by decide, fun _ => ⟨[], sending.txBuf, rfl⟩⟩, rfl⟩

/-- One step out of each phase. -/
theorem witness_PhasesMoveForwardOnly :
    (∃ t, sending.PhaseTurn ∧ step sending = .next t ∧ t.phase = .rx ∧
      t.wireLog = sending.wireLog ++ [.tx sending.txBuf true]) ∧
    (∃ t, { receiving with rxFifo := [0x01#8] }.PhaseTurn ∧
      step { receiving with rxFifo := [0x01#8] } = .next t ∧ t.phase = .decode ∧
      t.wireLog = receiving.wireLog ++ [.rx [0x01#8]]) ∧
    (∃ t, decodingWrite.PhaseTurn ∧ step decodingWrite = .next t ∧ t.phase = .settle) ∧
    (∃ t, settling.PhaseTurn ∧ step settling = .next t ∧ t.phase = .idle) :=
  ⟨⟨_, sending_turn, rfl, rfl, rfl⟩, ⟨_, ⟨rfl, rfl⟩, rfl, rfl, rfl⟩, ⟨_, ⟨rfl, rfl⟩, rfl, rfl⟩,
    ⟨_, ⟨rfl, rfl⟩, rfl, rfl⟩⟩

/-- In IDLE with a word presented, and in flight with none. -/
theorem witness_EveryAcceptedCommandPostsAResult :
    (∃ t, { opened with port := [0x06000004D2#40] }.draw.agent = .block ∧
      step { opened with port := [0x06000004D2#40] } = .next t ∧
      { opened with port := [0x06000004D2#40] }.port ≠ []) ∧
    (∃ t, settling.draw.agent = .block ∧ step settling = .next t ∧ settling.phase ≠ .idle) :=
  ⟨⟨_, rfl, rfl, by decide⟩, ⟨_, rfl, rfl, by decide⟩⟩

/-- A block with nothing presented, and a host that presents a word beside a posted result. -/
theorem witness_PostedResultStays :
    (∃ t, opened.phase = .idle ∧ ¬ (opened.draw.agent = .block ∧ opened.port ≠ []) ∧
      ¬ (opened.draw.agent = .host ∧ opened.draw.hostMove = .reset) ∧ step opened = .next t) ∧
    (∃ t, (hostNext { opened with done := true } (.present 0x0300000002#40)).phase = .idle ∧
      (hostNext { opened with done := true } (.present 0x0300000002#40)).draw.hostMove ≠ .reset ∧
      step (hostNext { opened with done := true } (.present 0x0300000002#40)) = .next t) :=
  ⟨⟨_, rfl, by decide, by decide, rfl⟩, ⟨_, rfl, by decide, rfl⟩⟩

theorem witness_WireLogIsAppendOnly : ∃ t, sending.wireLog = [] ∧ step sending = .next t :=
  ⟨_, rfl, rfl⟩

/-- A step of the clock, and one of the block. -/
theorem witness_ConfigurationAndTimeAreKept :
    (∃ t, step { opened with pending := [{ blockDraw with agent := .clock }] } = .next t ∧ t.now = 1) ∧
    (∃ t, step sending = .next t) := ⟨⟨_, rfl, rfl⟩, ⟨_, rfl⟩⟩

theorem witness_OnlyCrcCommandsWriteTheAccumulator :
    ∃ t, step { fresh with port := [0x1100000001#40] } = .next t ∧
      t.crcAcc ≠ { fresh with port := [0x1100000001#40] }.crcAcc := ⟨_, rfl, by decide⟩

/-- CONNECT, CLOSE in flight, and reset. -/
theorem witness_OnlyConnectCloseAndResetChangeTheLink :
    (∃ t, step { fresh with port := [0x0100000000#40] } = .next t ∧ t.link ≠ fresh.link) ∧
    (∃ t, step closing = .next t ∧ t.link ≠ closing.link) ∧
    (∃ t, step (hostNext opened .reset) = .next t ∧ t.link ≠ (hostNext opened .reset).link) :=
  ⟨⟨_, rfl, by decide⟩, ⟨_, rfl, by decide⟩, ⟨_, rfl, by decide⟩⟩

/-- A short reply, and a CLOSE in flight. -/
theorem witness_ErrorsLeaveTheLinkOpen :
    (∃ t, { decoding with rxLen := 8#4 }.phase ≠ .idle ∧ step { decoding with rxLen := 8#4 } = .next t ∧
      t.err = true ∧ ¬ (t.errKind = 2#4 ∧ t.errSub = 4#4)) ∧
    (∃ t, step closing = .next t ∧ t.link = .closed ∧ closing.link ≠ .closed) :=
  ⟨⟨_, by decide, rfl, by decide, by decide⟩, ⟨_, rfl, by decide, by decide⟩⟩

/-- The invariant holds before the step of that statement. -/
theorem short_reply_inv : { decoding with rxLen := 8#4 }.Inv ∧ closing.Inv := by
  refine ⟨⟨⟨by decide, by decide, by decide, fun h => absurd h (by decide), by decide, by decide⟩, ?_⟩,
    ⟨⟨by decide, by decide, by decide, fun h => absurd h (by decide), by decide, by decide⟩, ?_⟩⟩ <;>
  · unfold State.TransactionOk RequestOk requestFrame
    decide +kernel

/-- A malformed reply, and an abort. -/
theorem witness_TransactionsPostOnlyTheirOwnErrors :
    (∃ t, { decoding with rxLen := 8#4 }.Inv ∧ { decoding with rxLen := 8#4 }.phase ≠ .idle ∧
      step { decoding with rxLen := 8#4 } = .next t ∧ t.err = true) ∧
    (∃ t, closing.Inv ∧ closing.phase ≠ .idle ∧ step closing = .next t ∧ t.err = true) :=
  ⟨⟨_, short_reply_inv.1, by decide, rfl, by decide⟩, ⟨_, short_reply_inv.2, by decide, rfl, by decide⟩⟩

/-- The draws of a whole transaction whose reply is `bs`, taken whole. -/
def transactionDraws (bs : List Byte) : List Draw :=
  [blockDraw, blockDraw, { blockDraw with agent := .transport, transportMove := .deliver bs },
    { blockDraw with recvLen := bs.length - 1 }, blockDraw,
    { blockDraw with agent := .clock, tick := 100 }, blockDraw]

/-- A read of two registers from 255 presented, with the draws of its transaction laid down. -/
def readRun : State :=
  { opened with
    port := [(Command.mk 0x03#8 255#16 2#16).word]
    pending := transactionDraws (replyOf 0x01#8 0x03#8 0x04#8 [1234#16, 1000#16]) }

/-- A write presented, with the draws of a transaction whose reply is `bs`. -/
def writeRun (bs : List Byte) : State :=
  { opened with port := [(Command.mk 0x06#8 0#16 1234#16).word], pending := transactionDraws bs }

/-- The words presented are those of R70. -/
theorem test_presented_words :
    readRun.port = [0x0300FF0002#40] ∧ (writeRun []).port = [0x06000004D2#40] := by decide

/-- At the highest start. -/
theorem witness_ReadTransactionPostsTheReplyValues :
    ∃ d0 d1 d2 d3 d4 d5 d6,
      readRun.phase = .idle ∧ readRun.link = .opened ∧ readRun.rxFifo = [] ∧ (255#16).toNat ≤ 255 ∧
      readRun.port = [(Command.mk 0x03#8 255#16 2#16).word] ∧
      readRun.pending = [d0, d1, d2, d3, d4, d5, d6] ∧
      d0.agent = .block ∧ d1.agent = .block ∧ d1.sendOk = true ∧ d2.agent = .transport ∧
      d2.transportMove = .deliver (replyOf 0x01#8 0x03#8 0x04#8 [1234#16, 1000#16]) ∧
      d3.agent = .block ∧ d3.rxChoice = 0 ∧ d3.recvLen = 8 ∧ d4.agent = .block ∧ d5.agent = .clock ∧
      readRun.cfg.settleMs ≤ d5.tick ∧ d6.agent = .block :=
  ⟨_, _, _, _, _, _, _, rfl, rfl, rfl, by decide, rfl, rfl, rfl, rfl, rfl, rfl, rfl, rfl, rfl, rfl, rfl, rfl,
    by decide, rfl⟩

/-- A read of register 0 alone presented, with the draws of its transaction laid down. -/
def oneReadRun : State :=
  { opened with
    port := [(Command.mk 0x03#8 0#16 1#16).word]
    pending := transactionDraws (replyOf 0x01#8 0x03#8 0x02#8 [1#16]) }

theorem witness_OneRegisterReadPostsTheReplyValue :
    ∃ d0 d1 d2 d3 d4 d5 d6,
      oneReadRun.phase = .idle ∧ oneReadRun.link = .opened ∧ oneReadRun.rxFifo = [] ∧
      (0#16).toNat ≤ 255 ∧
      oneReadRun.port = [(Command.mk 0x03#8 0#16 1#16).word] ∧
      oneReadRun.pending = [d0, d1, d2, d3, d4, d5, d6] ∧
      d0.agent = .block ∧ d1.agent = .block ∧ d1.sendOk = true ∧ d2.agent = .transport ∧
      d2.transportMove = .deliver (replyOf 0x01#8 0x03#8 0x02#8 [1#16]) ∧
      d3.agent = .block ∧ d3.rxChoice = 0 ∧ d3.recvLen = 6 ∧ d4.agent = .block ∧ d5.agent = .clock ∧
      oneReadRun.cfg.settleMs ≤ d5.tick ∧ d6.agent = .block :=
  ⟨_, _, _, _, _, _, _, rfl, rfl, rfl, by decide, rfl, rfl, rfl, rfl, rfl, rfl, rfl, rfl, rfl, rfl, rfl, rfl,
    by decide, rfl⟩

/-- Replies of one byte and of ten. -/
theorem witness_WriteTransactionIgnoresTheReply :
    ∀ bs ∈ [[0x01#8], List.replicate 10 0x01#8], ∃ d0 d1 d2 d3 d4 d5 d6,
      (writeRun bs).phase = .idle ∧ (writeRun bs).link = .opened ∧ (writeRun bs).rxFifo = [] ∧
      1 ≤ bs.length ∧ bs.length ≤ 10 ∧
      (writeRun bs).port = [(Command.mk 0x06#8 0#16 1234#16).word] ∧
      (writeRun bs).pending = [d0, d1, d2, d3, d4, d5, d6] ∧
      d0.agent = .block ∧ d1.agent = .block ∧ d1.sendOk = true ∧ d2.agent = .transport ∧
      d2.transportMove = .deliver bs ∧ d3.agent = .block ∧ d3.rxChoice = 0 ∧
      d3.recvLen + 1 = bs.length ∧ d4.agent = .block ∧ d5.agent = .clock ∧
      (writeRun bs).cfg.settleMs ≤ d5.tick ∧ d6.agent = .block := by
  intro bs hbs
  refine ⟨_, _, _, _, _, _, _, rfl, rfl, rfl, ?_, ?_, rfl, rfl, rfl, rfl, rfl, rfl, rfl, rfl, rfl, ?_, rfl,
    rfl, (by decide : 100 ≤ 100), rfl⟩ <;> revert bs <;> decide

end Sys2Proof.Tests
end

section
/-!
PROOFS. The moves of the machine as relations, and the statements of 10_state.md settled from them.
-/

namespace Sys2Proof.Machine

/-! ### What one move can be

`CommandMove`, `PhaseMove` and `Move` name the outcomes that `exec_decodeCommand_cases`, `blockMove_cases` and
`step_cases` list, one constructor for each, so that a fact about every step is a case split by name. -/

/-- What running the instruction `i` of a command word from IDLE can leave (R131 to R138, R104, R105). -/
inductive CommandMove (s : State) : Instr → State → Prop
  | connected (hl : s.link ≠ .opened) : CommandMove s (.connect 0#16 0#16)
      (({ (s.accept ⟨0x01#8, 0#16, 0#16⟩).logEvent (.connect true) with link := .opened }.freshChannel).postOk
        0 0#16 0#16)
  | connectFailed (hl : s.link ≠ .opened) : CommandMove s (.connect 0#16 0#16)
      (((s.accept ⟨0x01#8, 0#16, 0#16⟩).logEvent (.connect false)).raise (.transportFailure .connectFailed))
  | closed (hl : s.link = .opened) : CommandMove s (.close 0#16 0#16)
      ((s.accept ⟨0x02#8, 0#16, 0#16⟩).closeLink.postOk 0 0#16 0#16)
  | readStarted (a b : Word) (hl : s.link = .opened) (hb : b = 1#16 ∨ b = 2#16) (ha : a.toNat ≤ 255) :
      CommandMove s (.readRegs a b)
        ((s.accept ⟨0x03#8, a, b⟩).startTransaction (readRequest (s.accept ⟨0x03#8, a, b⟩)))
  | writeStarted (a b : Word) (hl : s.link = .opened) :
      CommandMove s (.writeReg a b)
        ((s.accept ⟨0x06#8, a, b⟩).startTransaction (writeRequest (s.accept ⟨0x06#8, a, b⟩)))
  | crcInit : CommandMove s (.crcInit 0#16 0#16) ((s.accept ⟨0x10#8, 0#16, 0#16⟩).postCrc crcInitValue)
  | crcFeed (b : Byte) : CommandMove s (.crcFeed 0#16 0#8 b)
      ((s.accept ⟨0x11#8, 0#16, 0#8 ++ b⟩).postCrc (crcStep s.crcAcc b))
  | rejected (i : Instr) (c : Command) (cause : ContractCause) :
      CommandMove s i ((s.accept c).raise (.contractViolation cause))

/-- What the block's own step of a phase in flight can leave (R139 to R145). -/
inductive PhaseMove (s : State) : State → Prop
  | waited (hp : s.phase = .rx ∨ s.phase = .settle) : PhaseMove s s
  | sent (hp : s.phase = .tx) : PhaseMove s (s.logSend s.txBuf true).startReceive
  | sendFailed (hp : s.phase = .tx) :
      PhaseMove s ((s.logSend s.txBuf false).raise (.transportFailure .sendFailed))
  | received (k : Nat) (hp : s.phase = .rx) (hpos : 1 ≤ k) (hten : k ≤ 10) (hfifo : k ≤ s.rxFifo.length) :
      PhaseMove s (s.receive k)
  | failed (e : BlockError) (hp : s.phase = .rx ∨ s.phase = .decode) : PhaseMove s (s.raise e)
  | checked (hp : s.phase = .decode) (hv : s.cur.op = fcRead →
      validateReadReply s.cfg.checkReplyCrc s.rxBuf s.rxLen.toNat s.cur.b.toNat = .ok) :
      PhaseMove s s.startSettle
  | posted (n : Nat) (d0 d1 : Word) (hp : s.phase = .settle)
      (hn : n = 0 ∨ (s.cur.op = fcRead ∧ n = s.cur.b.toNat)) : PhaseMove s (s.postOk n d0 d1)

/-- What one agent's move can leave, before the step's draw is used up (R20). Of a transport's move it says only
that it is the transport's and touches the channel alone. -/
inductive Move (s : State) : State → Prop
  | stayed (ha : s.draw.agent ≠ .clock) (hb : s.draw.agent = .block → s.phase = .idle ∧ s.port = []) :
      Move s s
  | presented (w : CmdWord) (ha : s.draw.agent = .host) : Move s { s with port := s.port ++ [w] }
  | reset (hr : s.TakesReset) : Move s s.resetBlock
  | channel (fifo : List Byte) (closed error : Bool) (ha : s.draw.agent = .transport) :
      Move s { s with rxFifo := fifo, rxClosed := closed, rxError := error }
  | ticked (d : Nat) (ha : s.draw.agent = .clock) : Move s { s with now := s.now + (d + 1) }
  | command (w : CmdWord) (rest : List CmdWord) {u : State} (ha : s.draw.agent = .block)
      (hp : s.phase = .idle) (hq : s.port = w :: rest)
      (hf : s.fetchCommand = some (w, { s with port := rest }))
      (hm : CommandMove { s with port := rest } (decodeCommand w) u) : Move s u
  | aborted (ha : s.draw.agent = .block) (hp : s.phase ≠ .idle)
      (hf : s.fetchCommand = some (closeWord, { s with port := s.port.erase closeWord })) :
      Move s (abortAction { s with port := s.port.erase closeWord })
  | phase {u : State} (ha : s.draw.agent = .block) (hf : s.fetchCommand = none) (hm : PhaseMove s u) :
      Move s u

theorem connectAction_commandMove {s : State} (hl : s.link ≠ .opened) :
    CommandMove s (.connect 0#16 0#16) (connectAction (s.accept ⟨0x01#8, 0#16, 0#16⟩)) := by
  rcases connectAction_cases (s.accept ⟨0x01#8, 0#16, 0#16⟩) with ⟨-, he⟩ | ⟨-, he⟩
  · rw [he]; exact .connected hl
  · rw [he]; exact .connectFailed hl

/-- A command word run from IDLE makes a `CommandMove` of its instruction. -/
theorem exec_commandMove {w : CmdWord} {s t : State} (hp : s.phase = .idle)
    (h : exec (decodeCommand w) s = .next t) : CommandMove s (decodeCommand w) t := by
  rcases exec_decodeCommand_cases hp h with ⟨hw, hl, rfl⟩ | ⟨hw, hl, rfl⟩ | ⟨a, b, hw, hl, hb, ha, rfl⟩ |
    ⟨a, b, hw, hl, rfl⟩ | ⟨hw, rfl⟩ | ⟨b, hw, rfl⟩ | ⟨c, cause, rfl⟩
  · rw [hw]; exact connectAction_commandMove hl
  · rw [hw]; exact .closed hl
  · rw [hw]; exact .readStarted a b hl hb ha
  · rw [hw]; exact .writeStarted a b hl
  · rw [hw]; exact .crcInit
  · rw [hw]; exact .crcFeed b
  · exact .rejected _ c cause

theorem sendFrame_phaseMove {s : State} (hp : s.phase = .tx) : PhaseMove s (s.sendFrame s.txBuf) := by
  rcases sendFrame_cases s s.txBuf with ⟨-, he⟩ | ⟨-, he⟩
  · rw [he]; exact .sent hp
  · rw [he]; exact .sendFailed hp

/-- The step of phase RX that was drawn, when it is enabled. -/
theorem rxStep_phaseMove {s : State} {a : RxStep} (hp : s.phase = .rx) (ha : s.rxEnabled a = true) :
    PhaseMove s (s.rxStep a) := by
  cases a with
  | data =>
    have hne : s.rxFifo ≠ [] := by simpa [State.rxEnabled] using ha
    obtain ⟨hpos, hten, hfifo⟩ := receiveLength_bounds hne
    exact .received _ hp hpos hten hfifo
  | recvFailed => exact .failed _ (.inl hp)
  | channelClosed => exact .failed _ (.inl hp)
  | deadline => exact .failed _ (.inl hp)

theorem rxPhase_phaseMove {s : State} (hp : s.phase = .rx) : PhaseMove s (rxPhase s) := by
  rcases rxPhase_cases s with ⟨-, he⟩ | ⟨a, ha, he⟩
  · rw [he]; exact .waited (.inl hp)
  · rw [he]; exact rxStep_phaseMove hp ha

theorem decodePhase_phaseMove {s : State} (hp : s.phase = .decode) : PhaseMove s (decodePhase s) := by
  rcases decodePhase_cases s with ⟨-, c, he⟩ | ⟨he, hv⟩
  · rw [he]; exact .failed _ (.inr hp)
  · rw [he]; exact .checked hp hv

theorem settlePhase_phaseMove {s : State} (hp : s.phase = .settle) : PhaseMove s (settlePhase s) := by
  rcases settlePhase_cases s with ⟨-, he⟩ | ⟨-, n, d0, d1, he, hn⟩
  · rw [he]; exact .waited (.inr hp)
  · rw [he]; exact .posted n d0 d1 hp hn

/-- A move of the block is a `Move`. -/
theorem blockMove_move {s u : State} (ha : s.draw.agent = .block) (h : blockMove s = .next u) :
    Move s u := by
  rcases blockMove_cases h with ⟨hp, hq, rfl⟩ | ⟨w, rest, hp, hq, hf, he⟩ | ⟨hp, -, hf, rfl⟩ |
    ⟨hf, ⟨hp, rfl⟩ | ⟨hp, rfl⟩ | ⟨hp, rfl⟩ | ⟨hp, rfl⟩⟩
  · exact .stayed (by simp [ha]) fun _ => ⟨hp, hq⟩
  · exact .command w rest ha hp hq hf (exec_commandMove hp he)
  · exact .aborted ha hp hf
  · exact .phase ha hf (sendFrame_phaseMove hp)
  · exact .phase ha hf (rxPhase_phaseMove hp)
  · exact .phase ha hf (decodePhase_phaseMove hp)
  · exact .phase ha hf (settlePhase_phaseMove hp)

/-- Every step that answers a next state is a `Move` with its draw used up. -/
theorem step_move {s t : State} (h : step s = .next t) : ∃ u, t = u.drawn ∧ Move s u := by
  obtain ⟨u, rfl, hu⟩ := step_cases h
  refine ⟨u, rfl, ?_⟩
  rcases hu with ⟨ha, hm⟩ | ⟨ha, hm⟩ | ⟨ha, rfl⟩ | ⟨ha, rfl⟩
  · rcases hostMove_cases hm with rfl | ⟨w, rfl⟩ | ⟨hr, rfl⟩
    · exact .stayed (by simp [ha]) (by simp [ha])
    · exact .presented w ha
    · exact .reset ⟨ha, hr⟩
  · exact blockMove_move ha hm
  · rcases transportMove_cases s.draw.transportMove s with he | ⟨-, ⟨bs, he⟩ | he | he⟩
    · rw [he]; exact .stayed (by simp [ha]) (by simp [ha])
    · rw [he]; exact .channel _ s.rxClosed s.rxError ha
    · rw [he]; exact .channel s.rxFifo s.rxClosed true ha
    · rw [he]; exact .channel s.rxFifo true s.rxError ha
  · exact .ticked _ ha

/-! ### What every move leaves unchanged -/

theorem CommandMove.cfg_now {s u : State} {i : Instr} (h : CommandMove s i u) :
    u.cfg = s.cfg ∧ u.now = s.now := by
  cases h <;> exact ⟨rfl, rfl⟩

theorem PhaseMove.cfg_now {s u : State} (h : PhaseMove s u) : u.cfg = s.cfg ∧ u.now = s.now := by
  cases h <;> exact ⟨rfl, rfl⟩

/-- Only CONNECT and CLOSE log in the step that takes the command, one event each (R134, R135). -/
theorem CommandMove.wireLog {s u : State} {i : Instr} (h : CommandMove s i u) :
    u.wireLog = s.wireLog ∨ ∃ e, u.wireLog = s.wireLog ++ [e] := by
  cases h with
  | connected | connectFailed | closed => exact .inr ⟨_, rfl⟩
  | _ => exact .inl rfl

/-- A phase logs its send or its receive, and nothing else (R139, R140, R148). -/
theorem PhaseMove.wireLog {s u : State} (h : PhaseMove s u) :
    u.wireLog = s.wireLog ∨ (s.phase = .tx ∧ ∃ f ok, u.wireLog = s.wireLog ++ [.tx f ok]) ∨
      (s.phase = .rx ∧ ∃ bs, u.wireLog = s.wireLog ++ [.rx bs]) := by
  cases h with
  | sent hp | sendFailed hp => exact .inr (.inl ⟨hp, _, _, rfl⟩)
  | received k hp => exact .inr (.inr ⟨hp, _, rfl⟩)
  | _ => exact .inl rfl

theorem Move.wireLog {s u : State} (h : Move s u) :
    u.wireLog = s.wireLog ∨ ∃ e, u.wireLog = s.wireLog ++ [e] := by
  cases h with
  | command w rest ha hp hq hf hm => exact hm.wireLog
  | aborted => exact .inr ⟨_, rfl⟩
  | phase ha hf hm =>
    rcases hm.wireLog with he | ⟨-, f, ok, he⟩ | ⟨-, bs, he⟩
    · exact .inl he
    · exact .inr ⟨_, he⟩
    · exact .inr ⟨_, he⟩
  | _ => exact .inl rfl

/-- Only CRC_INIT and CRC_FEED write the accumulator (R30, R106). -/
theorem CommandMove.crcAcc {s u : State} {i : Instr} (h : CommandMove s i u) :
    u.crcAcc = s.crcAcc ∨ i = .crcInit 0#16 0#16 ∨ ∃ b, i = .crcFeed 0#16 0#8 b := by
  cases h with
  | crcInit => exact .inr (.inl rfl)
  | crcFeed b => exact .inr (.inr ⟨b, rfl⟩)
  | _ => exact .inl rfl

theorem PhaseMove.crcAcc {s u : State} (h : PhaseMove s u) : u.crcAcc = s.crcAcc := by
  cases h <;> rfl

/-- Only CONNECT and CLOSE change the link (R26). -/
theorem CommandMove.link {s u : State} {i : Instr} (h : CommandMove s i u) :
    u.link = s.link ∨ (i = .connect 0#16 0#16 ∧ s.link ≠ .opened ∧ u.link = .opened) ∨
      (i = .close 0#16 0#16 ∧ u.link = .closed) := by
  cases h with
  | connected hl => exact .inr (.inl ⟨rfl, hl, rfl⟩)
  | closed => exact .inr (.inr ⟨rfl, rfl⟩)
  | _ => exact .inl rfl

theorem PhaseMove.link {s u : State} (h : PhaseMove s u) : u.link = s.link := by
  cases h <;> rfl

theorem PhaseMove.phase_ne_idle {s u : State} (h : PhaseMove s u) : s.phase ≠ .idle := by
  cases h with
  | waited hp | failed e hp => rcases hp with hp | hp <;> simp [hp]
  | sent hp | sendFailed hp | received k hp | checked hp | posted n d0 d1 hp => simp [hp]

/-- The order of the phases (R35): a phase waits, ends the command, or hands over to the next. -/
theorem PhaseMove.phase {s u : State} (h : PhaseMove s u) :
    u.phase = s.phase ∨ u.phase = .idle ∨ (s.phase = .tx ∧ u.phase = .rx) ∨
      (s.phase = .rx ∧ u.phase = .decode) ∨ (s.phase = .decode ∧ u.phase = .settle) := by
  cases h with
  | waited => exact .inl rfl
  | sent hp => exact .inr (.inr (.inl ⟨hp, rfl⟩))
  | received k hp => exact .inr (.inr (.inr (.inl ⟨hp, rfl⟩)))
  | checked hp => exact .inr (.inr (.inr (.inr ⟨hp, rfl⟩)))
  | sendFailed | failed | posted => exact .inr (.inl rfl)

/-- Only RX and SETTLE wait (R142, R145). -/
theorem PhaseMove.phase_ne {s u : State} (h : PhaseMove s u) (hrx : s.phase ≠ .rx)
    (hsettle : s.phase ≠ .settle) : u.phase ≠ s.phase := by
  have hidle := h.phase_ne_idle
  cases h with
  | waited hp => exact absurd hp (not_or.mpr ⟨hrx, hsettle⟩)
  | sent hp | checked hp => simp [hp]
  | received k hp => exact absurd hp hrx
  | sendFailed | failed | posted => exact hidle.symm

/-! ### The invariant -/

/-- A raised error meets what `STATUS` always says, whatever stood before (R200). -/
theorem statusOk_raise (s : State) (e : BlockError) : (s.raise e).StatusOk :=
  ⟨by simp, by simp, by simp, fun _ => ⟨rfl, rfl, e, rfl, rfl⟩, by simp, by simp⟩

/-- So does a posted success of at most two data words. -/
theorem statusOk_postOk (s : State) {n : Nat} (d0 d1 : Word) (hn : n ≤ 2) :
    (s.postOk n d0 d1).StatusOk := by
  have hd : BitVec.ofNat 2 n ≠ 3#2 := by interval_cases n <;> decide
  exact ⟨by simp, by simpa using hd, by simp, by simp, by simp, by simp⟩

/-- And a transaction just accepted. -/
theorem statusOk_startTransaction (s : State) (c : Command) (fr : Frame) :
    ((s.accept c).startTransaction fr).StatusOk := by
  simp [State.StatusOk]

/-- A move in flight that writes no field of `STATUS` keeps it well formed. -/
theorem statusOk_of_status_eq {s u : State} (h : s.StatusOk) (hs : s.phase ≠ .idle) (hu : u.phase ≠ .idle)
    (hb : u.busy = s.busy) (hd : u.done = s.done) (he : u.err = s.err) (hk : u.errKind = s.errKind)
    (hsub : u.errSub = s.errSub) (hc : u.dcount = s.dcount) : u.StatusOk := by
  unfold State.StatusOk at *
  rw [hb, hd, he, hk, hsub, hc]
  simpa only [hs, hu, ne_eq, not_false_iff] using h

/-- In IDLE the invariant asks of the transaction's registers only their bounds. -/
theorem transactionOk_of_idle {s : State} (hp : s.phase = .idle) (hbuf : s.rxBuf.length = 10)
    (hlen : s.rxLen.toNat ≤ 10) (hmark : s.tMark ≤ s.now) : s.TransactionOk := by
  simp [State.TransactionOk, hp, hbuf, hlen, hmark]

/-- A block that a reset has put in IDLE meets the invariant, whatever it does not touch. -/
theorem inv_resetBlock (s : State) : s.resetBlock.Inv :=
  ⟨by simp [State.StatusOk, State.reset], transactionOk_of_idle rfl rfl (by simp [State.reset]) (Nat.zero_le _)⟩

/-- What a started transaction puts in TXBUF is the frame of its request (R137, R138). -/
theorem transactionOk_startTransaction {s : State} {c : Command} {fr : Frame} (h : s.TransactionOk)
    (hl : s.link = .opened) (hc : RequestOk c) (hfr : fr = requestFrame (s.accept c)) :
    ((s.accept c).startTransaction fr).TransactionOk := by
  obtain ⟨hbuf, -, hmark, -⟩ := h
  exact ⟨hbuf, by simp, hmark, fun _ => ⟨hl, hc, hfr⟩, by simp, by simp, by simp⟩

theorem CommandMove.statusOk {s u : State} {i : Instr} (h : CommandMove s i u) : u.StatusOk := by
  cases h with
  | connected | closed | crcInit | crcFeed => exact statusOk_postOk _ _ _ (by decide)
  | connectFailed | rejected => exact statusOk_raise _ _
  | readStarted | writeStarted => exact statusOk_startTransaction _ _ _

theorem CommandMove.transactionOk {s u : State} {i : Instr} (h : CommandMove s i u)
    (hs : s.TransactionOk) : u.TransactionOk := by
  have ⟨hbuf, _, hmark, _⟩ := hs
  cases h with
  | readStarted a b hl hb ha =>
    exact transactionOk_startTransaction hs hl (.inr ⟨rfl, ha, hb⟩) (by simp [requestFrame, readRequest])
  | writeStarted a b hl =>
    exact transactionOk_startTransaction hs hl (.inl rfl) (by simp [requestFrame, writeRequest])
  | connected | connectFailed | closed | crcInit | crcFeed | rejected =>
    exact transactionOk_of_idle rfl hbuf (by simp) hmark

/-- A checked read asks for one or two values (R132). -/
theorem RequestOk.count_le_two {c : Command} (h : RequestOk c) (ho : c.op = fcRead) : c.b.toNat ≤ 2 := by
  rcases h with hw | ⟨-, -, hb | hb⟩
  · rw [ho] at hw
    exact absurd hw (by decide)
  · simp [hb]
  · simp [hb]

theorem PhaseMove.statusOk {s u : State} (h : PhaseMove s u) (hs : s.Inv) : u.StatusOk := by
  obtain ⟨hst, -, -, -, hreq, -⟩ := hs
  have hp := h.phase_ne_idle
  obtain ⟨-, hcur, -⟩ := hreq hp
  cases h with
  | waited => exact hst
  | sendFailed | failed => exact statusOk_raise _ _
  | sent | received | checked => exact statusOk_of_status_eq hst hp (by simp) rfl rfl rfl rfl rfl rfl
  | posted n d0 d1 _ hn =>
    rcases hn with rfl | ⟨ho, rfl⟩
    · exact statusOk_postOk _ _ _ (by decide)
    · exact statusOk_postOk _ _ _ (hcur.count_le_two ho)

/-- A receive of `k` of the ten bytes leaves ten bytes in RXBUF. -/
theorem receive_rxBuf_length {s : State} {k : Nat} (hbuf : s.rxBuf.length = 10) (hten : k ≤ 10)
    (hfifo : k ≤ s.rxFifo.length) : (s.receive k).rxBuf.length = 10 := by
  simp only [State.receive_rxBuf, List.length_append, List.length_take, List.length_drop]
  omega

theorem receive_rxLen_toNat {s : State} {k : Nat} (hten : k ≤ 10) : (s.receive k).rxLen.toNat = k := by
  simp only [State.receive_rxLen, BitVec.toNat_ofNat]
  omega

theorem PhaseMove.transactionOk {s u : State} (h : PhaseMove s u) (hs : s.TransactionOk) :
    u.TransactionOk := by
  have hp := h.phase_ne_idle
  have ⟨hbuf, hlen, hmark, hreq, hzero, hpos, _⟩ := hs
  cases h with
  | waited => exact hs
  | sent hp' =>
    exact ⟨hbuf, hlen, le_rfl, fun _ => hreq hp, fun _ => hzero (.inl hp'), by simp, by simp⟩
  | received k _ hk hten hfifo =>
    have hk' := receive_rxLen_toNat (s := s) hten
    exact ⟨receive_rxBuf_length hbuf hten hfifo, hk'.trans_le hten, hmark, fun _ => hreq hp, by simp,
      fun _ => hk.trans_eq hk'.symm, by simp⟩
  | checked hp' hv =>
    exact ⟨hbuf, hlen, le_rfl, fun _ => hreq hp, by simp, fun _ => hpos (.inl hp'), fun _ => hv⟩
  | sendFailed | failed | posted => exact transactionOk_of_idle rfl hbuf hlen hmark

/-- Every agent's move keeps the invariant. -/
theorem Move.inv {s u : State} (h : Move s u) (hs : s.Inv) : u.Inv := by
  have ⟨hst, htr⟩ := hs
  have ⟨hbuf, hlen, hmark, hrest⟩ := htr
  cases h with
  | stayed | presented | channel => exact hs
  | reset => exact inv_resetBlock s
  | ticked d => exact ⟨hst, hbuf, hlen, Nat.le_add_right_of_le hmark, hrest⟩
  | command w rest ha hp hq hf hm => exact ⟨hm.statusOk, hm.transactionOk htr⟩
  | aborted => exact ⟨statusOk_raise _ _, transactionOk_of_idle rfl hbuf hlen hmark⟩
  | phase ha hf hm => exact ⟨hm.statusOk hs, hm.transactionOk htr⟩

/-- Settles O45: every agent's move keeps the invariant, and using up the draw touches no field of it. -/
theorem stepKeepsTheInvariant : Obligations.StepKeepsTheInvariant := by
  intro s t hs h
  obtain ⟨u, rfl, hm⟩ := step_move h
  exact hm.inv hs

/-- Settles O44: the first state is a reset of itself, and its wire log is empty. -/
theorem resetMeetsTheInvariant : Obligations.ResetMeetsTheInvariant :=
  ⟨inv_resetBlock State.reset, by simp [State.WireFramesOk, State.reset],
    by simp [State.WireOrderOk, State.reset, receivesFollowSends]⟩

/-! ### The status word, host reads and reset -/

/-- A field of `STATUS` is read back by the bits of the word that are its own. -/
theorem status_extract {n : Nat} {s : State} {lo : Nat} {field : BitVec n}
    (h : ∀ i < n, s.status.getLsbD (lo + i) = field.getLsbD i) : s.status.extractLsb' lo n = field := by
  refine BitVec.eq_of_getLsbD_eq fun i hi => ?_
  simp [hi, h i hi]

theorem status_errKind (s : State) : s.status.extractLsb' 4 4 = s.errKind :=
  status_extract fun i hi => by
    simp (disch := omega) only [status_getLsbD, if_neg, if_pos, Nat.add_sub_cancel_left]

theorem status_errSub (s : State) : s.status.extractLsb' 8 4 = s.errSub :=
  status_extract fun i hi => by
    simp (disch := omega) only [status_getLsbD, if_neg, if_pos, Nat.add_sub_cancel_left]

theorem status_link (s : State) : s.status.extractLsb' 12 2 = s.link.code :=
  status_extract fun i hi => by
    simp (disch := omega) only [status_getLsbD, if_neg, if_pos, Nat.add_sub_cancel_left]

theorem status_dcount (s : State) : s.status.extractLsb' 14 2 = s.dcount :=
  status_extract fun i hi => by
    simp (disch := omega) only [status_getLsbD, if_neg, Nat.add_sub_cancel_left]

/-- Settles O39, field by field. -/
theorem statusWordHasTheSpecLayout : Obligations.StatusWordHasTheSpecLayout := by
  intro s
  refine ⟨?_, ?_, ?_, ?_, status_errKind s, status_errSub s, status_dcount s, ?_⟩
  · rw [status_getLsbD]; simp
  · rw [status_getLsbD]; simp
  · rw [status_getLsbD]; simp
  · rw [status_getLsbD]; simp
  · exact (status_link s).trans (by cases s.link <;> rfl)

theorem step_of_host {s : State} (ha : s.draw.agent = .host) :
    step s = finishStep (hostMove s.draw.hostMove s) := by
  simp [step, agentMove, ha]

theorem hostMove_read_ok {s : State} {r : HostReg} {v : Word} (h : s.hostRead r = .ok v) :
    hostMove (.read r) s = .next s := by
  simp [hostMove, h]

theorem hostMove_read_error {s : State} {r : HostReg} {f : Fault} (h : s.hostRead r = .error f) :
    hostMove (.read r) s = .fault f := by
  simp [hostMove, h]

/-- DATA0 holds a value exactly when DCOUNT is not 0 (R28). -/
theorem hostRead_data0 (s : State) : s.hostRead .data0 =
    if s.dcount = 0#2 then .error (.dataWordHoldsNoValue .data0) else .ok s.data0 := by
  have hpos : ∀ d : BitVec 2, 0 < d.toNat ↔ ¬ d = 0#2 := by decide
  simp only [State.hostRead, hpos, ite_not]

/-- DATA1 holds a value exactly when DCOUNT is neither 0 nor 1 (R28). -/
theorem hostRead_data1 (s : State) : s.hostRead .data1 =
    if s.dcount = 0#2 ∨ s.dcount = 1#2 then .error (.dataWordHoldsNoValue .data1) else .ok s.data1 := by
  have htwo : ∀ d : BitVec 2, 1 < d.toNat ↔ ¬ (d = 0#2 ∨ d = 1#2) := by decide
  simp only [State.hostRead, htwo, ite_not]

/-- Settles O40: the value by register, then the host's move with and without one. -/
theorem hostReadsChangeNothing : Obligations.HostReadsChangeNothing := by
  intro s r ha hm
  refine ⟨?_, fun v hv => ?_, fun f hf => ?_⟩
  · cases r with
    | data0 => exact hostRead_data0 s
    | data1 => exact hostRead_data1 s
    | status => rfl
    | rxLen => rfl
    | crcAcc => rfl
  · rw [step_of_host ha, hm, hostMove_read_ok hv]; rfl
  · rw [step_of_host ha, hm, hostMove_read_error hf]; rfl

/-- A reset step always answers, with the reset block (R240). -/
theorem step_of_reset {s : State} (h : s.TakesReset) : step s = .next s.resetBlock.drawn := by
  rw [step_of_host h.1, h.2]; rfl

@[simp] theorem resetBlock_status (s : State) : s.resetBlock.status = 0#16 :=
  (by decide : State.reset.status = 0#16)

/-- Settles O42: every field is read off the reset block. -/
theorem resetPutsTheBlockInIdle : Obligations.ResetPutsTheBlockInIdle := fun s h =>
  ⟨_, step_of_reset h, rfl, resetBlock_status s, rfl, rfl, rfl, rfl, rfl, rfl, rfl, rfl, rfl, rfl, rfl⟩

/-! ### Rules of every step -/

theorem PhaseMove.tx_of_logs_send {s u : State} {f : Frame} {ok : Bool} (h : PhaseMove s u)
    (hlog : u.wireLog = s.wireLog ++ [.tx f ok]) : s.phase = .tx := by
  rcases h.wireLog with he | ⟨hp, -⟩ | ⟨-, bs, he⟩
  · simp [he] at hlog
  · exact hp
  · simp [he] at hlog

theorem PhaseMove.rx_of_logs_receive {s u : State} {bs : List Byte} (h : PhaseMove s u)
    (hlog : u.wireLog = s.wireLog ++ [.rx bs]) : s.phase = .rx := by
  rcases h.wireLog with he | ⟨-, f, ok, he⟩ | ⟨hp, -⟩
  · simp [he] at hlog
  · simp [he] at hlog
  · exact hp

/-- When the block takes no command it waits in IDLE or makes a move of its phase. -/
theorem phaseTurn_move {s t : State} (hturn : s.PhaseTurn) (h : step s = .next t) :
    ∃ u, t = u.drawn ∧ ((s.phase = .idle ∧ u = s) ∨ PhaseMove s u) := by
  obtain ⟨ha, hf⟩ := hturn
  obtain ⟨u, rfl, hm⟩ := step_move h
  refine ⟨u, rfl, ?_⟩
  cases hm with
  | stayed _ hb => exact .inl ⟨(hb ha).1, rfl⟩
  | phase _ _ hm => exact .inr hm
  | command w rest _ _ _ hf' | aborted _ _ hf' => simp [hf] at hf'
  | presented w ha' | channel _ _ _ ha' | ticked _ ha' => simp [ha] at ha'
  | reset hr => simp [State.TakesReset, ha] at hr

/-- Settles O48, from what a phase's own move does to PHASE and to the wire log. -/
theorem phasesMoveForwardOnly : Obligations.PhasesMoveForwardOnly := by
  intro s t hturn h
  obtain ⟨u, rfl, ⟨hp, rfl⟩ | hm⟩ := phaseTurn_move hturn h
  · simp [hp]
  · have leaves {p : Phase} (hrx : p ≠ .rx) (hsettle : p ≠ .settle) (hp : s.phase = p) : u.phase ≠ p :=
      hp ▸ hm.phase_ne (hp ▸ hrx) (hp ▸ hsettle)
    exact ⟨hm.phase, leaves (by decide) (by decide), leaves (by decide) (by decide),
      fun _ _ => hm.tx_of_logs_send, fun _ => hm.rx_of_logs_receive⟩

/-- Settles O50: in IDLE only an accepted command and a reset write the result. -/
theorem postedResultStays : Obligations.PostedResultStays := by
  intro s t hp hnone hnoreset h
  obtain ⟨u, rfl, hm⟩ := step_move h
  cases hm with
  | command w rest ha _ hq => exact absurd ⟨ha, by simp [hq]⟩ hnone
  | reset hr => exact absurd hr hnoreset
  | aborted _ hp' => exact absurd hp hp'
  | phase _ _ hm => exact absurd hp hm.phase_ne_idle
  | stayed | presented | channel | ticked => exact ⟨hp, rfl, rfl, rfl, rfl⟩

/-- Settles O51: a move logs one event or none. -/
theorem wireLogIsAppendOnly : Obligations.WireLogIsAppendOnly := by
  intro s t h
  obtain ⟨u, rfl, hm⟩ := step_move h
  rcases hm.wireLog with he | ⟨e, he⟩
  · exact ⟨[], by simpa using he, by simp⟩
  · exact ⟨[e], he, by simp⟩

/-- No move writes the configuration (R31). -/
theorem Move.cfg {s u : State} (h : Move s u) : u.cfg = s.cfg := by
  cases h with
  | command w rest ha hp hq hf hm | phase ha hf hm => exact hm.cfg_now.1
  | _ => rfl

/-- The clock's move makes `now` later, and every other move keeps it (R38). -/
theorem Move.now {s u : State} (h : Move s u) :
    (s.draw.agent = .clock ∧ s.now < u.now) ∨ (s.draw.agent ≠ .clock ∧ u.now = s.now) := by
  cases h with
  | ticked d ha => exact .inl ⟨ha, Nat.lt_add_of_pos_right d.succ_pos⟩
  | command w rest ha hp hq hf hm | phase ha hf hm => exact .inr ⟨by simp [ha], hm.cfg_now.2⟩
  | stayed ha => exact .inr ⟨ha, rfl⟩
  | presented w ha | channel _ _ _ ha | aborted ha => exact .inr ⟨by simp [ha], rfl⟩
  | reset hr => exact .inr ⟨by simp [hr.1], rfl⟩

/-- Settles O52, by whether the clock moved. -/
theorem configurationAndTimeAreKept : Obligations.ConfigurationAndTimeAreKept := by
  intro s t h
  obtain ⟨u, rfl, hm⟩ := step_move h
  refine ⟨hm.cfg, ?_⟩
  rcases hm.now with ⟨ha, hlt⟩ | ⟨ha, he⟩
  · exact ⟨hlt.le, iff_of_true hlt.ne' ha⟩
  · exact ⟨he.ge, iff_of_false (not_not_intro he) ha⟩

/-- Settles O53, by the move and then by the command taken. -/
theorem onlyCrcCommandsWriteTheAccumulator : Obligations.OnlyCrcCommandsWriteTheAccumulator := by
  intro s t h hne
  obtain ⟨u, rfl, hm⟩ := step_move h
  cases hm with
  | reset hr => exact .inl hr
  | command w rest ha _ _ hf hm =>
    rcases hm.crcAcc with he | hw | ⟨b, hw⟩
    · exact absurd he hne
    · exact .inr (.inl ⟨ha, w, _, hf, hw⟩)
    · exact .inr (.inr ⟨b, ha, w, _, hf, hw⟩)
  | phase _ _ hm => exact absurd hm.crcAcc hne
  | _ => exact absurd rfl hne

/-- Settles O54; the CLOSE of a transaction in flight is a CLOSE taken too (R136). -/
theorem onlyConnectCloseAndResetChangeTheLink : Obligations.OnlyConnectCloseAndResetChangeTheLink := by
  intro s t h hne
  obtain ⟨u, rfl, hm⟩ := step_move h
  cases hm with
  | reset hr => exact .inl ⟨hr, rfl⟩
  | command w rest ha _ _ hf hm =>
    rcases hm.link with he | ⟨hw, hl, he⟩ | ⟨hw, he⟩
    · exact absurd he hne
    · exact .inr (.inl ⟨⟨ha, w, _, hf, hw⟩, hl, he⟩)
    · exact .inr (.inr ⟨⟨ha, w, _, hf, hw⟩, he⟩)
  | aborted ha _ hf => exact .inr (.inr ⟨⟨ha, _, _, hf, decodeCommand_closeWord⟩, rfl⟩)
  | phase _ _ hm => exact absurd hm.link hne
  | _ => exact absurd rfl hne

end Sys2Proof.Machine
end

section
/-!
PROOFS. The two statements of 20_memory.md: what a receive takes from the RX FIFO (R65), and the settle interval
that comes before a success (R62).
-/

namespace Sys2Proof.Machine

/-! ### The receive -/

/-- Only a receive leads from RX to DECODE (R140). -/
theorem Move.receive_of_rx_decode {s u : State} (h : Move s u) (hs : s.phase = .rx) (hu : u.phase = .decode) :
    ∃ k, 1 ≤ k ∧ k ≤ 10 ∧ k ≤ s.rxFifo.length ∧ u = s.receive k := by
  cases h with
  | phase _ _ hm =>
    cases hm with
    | received k _ hpos hten hfifo => exact ⟨k, hpos, hten, hfifo, rfl⟩
    | waited => simp [hs] at hu
    | failed => cases hu
    | sent hp | sendFailed hp | checked hp | posted _ _ _ hp => simp [hs] at hp
  | command _ _ _ hp => simp [hs] at hp
  | aborted | reset => cases hu
  | stayed | presented | channel | ticked => simp [hs] at hu

/-- A receive puts the `k` bytes it takes at the start of RXBUF (R34, R140). -/
theorem receive_rxBuf_take {s : State} {k : Nat} (hfifo : k ≤ s.rxFifo.length) :
    (s.receive k).rxBuf.take k = s.rxFifo.take k := by
  rw [State.receive_rxBuf, List.take_left' (List.length_take_of_le hfifo)]

/-- Settles O30: the bytes are the first `k` of the FIFO, for the `k` of the receive. -/
theorem receiveTakesAPrefixOfTheFifo : Obligations.ReceiveTakesAPrefixOfTheFifo := by
  intro s t hs h ht
  obtain ⟨u, rfl, hm⟩ := step_move h
  obtain ⟨k, hpos, hten, hfifo, rfl⟩ := hm.receive_of_rx_decode hs ht
  have hlen : (s.rxFifo.take k).length = k := List.length_take_of_le hfifo
  refine ⟨s.rxFifo.take k, (List.take_append_drop k s.rxFifo).symm, ?_⟩
  rw [hlen]
  exact ⟨hpos, hten, rfl, receive_rxLen_toNat (s := s) hten, receive_rxBuf_take hfifo⟩

/-! ### The settle interval -/

/-- When the block takes no command, the step is its phase's own. -/
theorem step_of_phaseTurn {s : State} (h : s.PhaseTurn) : step s = finishStep (phaseStep s) := by
  simp [step, agentMove, blockMove, h.1, h.2]

/-- In flight, only the own step of SETTLE posts a success (R145, R207). -/
theorem Move.settle_of_success {s u : State} (h : Move s u) (hs : s.phase ≠ .idle) (hd : s.done = false)
    (hd' : u.done = true) (he : u.err = false) : s.PhaseTurn ∧ s.phase = .settle := by
  cases h with
  | phase ha hf hm =>
    cases hm with
    | posted _ _ _ hp => exact ⟨⟨ha, hf⟩, hp⟩
    | sendFailed | failed => cases he
    | waited | sent | received | checked => simp [hd] at hd'
  | command _ _ _ hp => exact absurd hp hs
  | aborted => cases he
  | reset => cases hd'
  | stayed | presented | channel | ticked => simp [hd] at hd'

/-- SETTLE posts nothing before its interval has passed (R145). -/
theorem settle_le_of_settlePhase_done {s : State} (hd : s.done = false) (hd' : (settlePhase s).done = true) :
    s.cfg.settleMs ≤ s.now - s.tMark := by
  rcases settlePhase_cases s with ⟨-, hw⟩ | ⟨hpassed, -⟩
  · simp [hw, hd] at hd'
  · simpa [State.elapsed] using hpassed

/-- Settles O38: the success is posted by SETTLE's own step, and that step waits for the interval. -/
theorem successIsNeverPostedBeforeTheSettle : Obligations.SuccessIsNeverPostedBeforeTheSettle := by
  intro s t hs hd h hd' he
  obtain ⟨u, rfl, hm⟩ := step_move h
  obtain ⟨hturn, hp⟩ := hm.settle_of_success hs hd hd' he
  have hu : (settlePhase s).drawn = u.drawn := by
    simpa [step_of_phaseTurn hturn, phaseStep, hp, finishStep] using h
  refine ⟨hp, settle_le_of_settlePhase_done hd ?_⟩
  rw [← State.drawn_done, hu]
  exact hd'

end Sys2Proof.Machine
end

section
/-!
PROOFS. The statements of 30_encoding.md about words and bytes: the decoder and the encoder (R70 to R78), the
assembler (R84) and the read reply (R81).
-/

namespace Sys2Proof

open Machine

/-! ### The word and the bytes of a command -/

/-- A command word is its three fields (R70). -/
theorem cmdWord_ext {v w : CmdWord} (hop : opField v = opField w) (ha : aField v = aField w)
    (hb : bField v = bField w) : v = w := by
  refine BitVec.eq_of_getLsbD_eq fun i hi => ?_
  by_cases h16 : i < 16
  · simpa [bField, h16] using congrArg (·.getLsbD i) hb
  · by_cases h32 : i < 32
    · simpa [aField, show i - 16 < 16 by omega, show 16 + (i - 16) = i by omega] using
        congrArg (·.getLsbD (i - 16)) ha
    · simpa [opField, show i - 32 < 8 by omega, show 32 + (i - 32) = i by omega] using
        congrArg (·.getLsbD (i - 32)) hop

/-- A bit of a command's word is a bit of one of its fields (R70). -/
theorem Command.getLsbD_word (c : Command) (i : Nat) :
    c.word.getLsbD i =
      if i < 16 then c.b.getLsbD i else if i < 32 then c.a.getLsbD (i - 16) else c.op.getLsbD (i - 32) := by
  have hb := BitVec.getLsbD_append (x := c.op ++ c.a) (y := c.b) (i := i)
  have ha := BitVec.getLsbD_append (x := c.op) (y := c.a) (i := i - 16)
  refine hb.trans ?_
  rw [ha]
  simp only [Nat.sub_sub, Nat.reduceAdd, show i - 16 < 16 ↔ i < 32 by omega]

@[simp] theorem Command.opField_word (c : Command) : opField c.word = c.op := by
  refine BitVec.eq_of_getLsbD_eq fun i hi => ?_
  simp [opField, getLsbD_word, hi, show ¬ 32 + i < 16 by omega]

@[simp] theorem Command.aField_word (c : Command) : aField c.word = c.a := by
  refine BitVec.eq_of_getLsbD_eq fun i hi => ?_
  simp [aField, getLsbD_word, hi, show 16 + i < 32 by omega]

@[simp] theorem Command.bField_word (c : Command) : bField c.word = c.b := by
  refine BitVec.eq_of_getLsbD_eq fun i hi => ?_
  simp [bField, getLsbD_word, hi]

/-- A command's bytes are those of its word. -/
theorem Command.decode_bytes (c : Command) : decode c.bytes = .ok (decodeCommand c.word) := by
  refine congrArg (Except.ok ∘ decodeCommand) (cmdWord_ext ?_ ?_ ?_)
  · rw [opField_cmdOfBytes, opField_word]
  · rw [aField_cmdOfBytes, aField_word, high_append_low]
  · rw [bField_cmdOfBytes, bField_word, high_append_low]

theorem encode_of_command? {i : Instr} {c : Command} (h : i.command? = some c) : encode i = c.bytes := by
  cases i with
  | frameWriteSingleRegister | frameReadRegisters => cases h
  | _ => cases h; rfl

/-- A reserved operation code is none of the six assigned ones (R71, R73). -/
theorem isReservedOp_iff_not_assigned (op : Byte) : isReservedOp op = true ↔
    op ≠ 0x01#8 ∧ op ≠ 0x02#8 ∧ op ≠ 0x03#8 ∧ op ≠ 0x06#8 ∧ op ≠ 0x10#8 ∧ op ≠ 0x11#8 := by
  simp [isReservedOp, assignedOps]

/-- The word of the command a well-formed command instruction stands for decodes to the instruction. -/
theorem decodeCommand_of_command? {i : Instr} {c : Command} (hi : WellFormed i = true)
    (h : i.command? = some c) : decodeCommand c.word = i := by
  cases i with
  | frameWriteSingleRegister | frameReadRegisters => cases h
  | reservedOp op a b =>
    cases h
    obtain ⟨h1, h2, h3, h6, h10, h11⟩ := (isReservedOp_iff_not_assigned op).mp hi
    simp [decodeCommand, h1, h2, h3, h6, h10, h11]
  | crcFeed a bHi b =>
    cases h
    simp [decodeCommand, extract_high_append, extract_low_append]
  | _ => cases h; simp [decodeCommand]

/-! ### Decoding and encoding -/

theorem Frame.decode_bytes (f : Frame) : decode f.bytes = decodeFrame f := rfl

/-- Settles O7: a command by the fields of its word, a frame by its own bytes. -/
theorem decodeOfEncode : Obligations.DecodeOfEncode := by
  intro i hi
  cases hc : i.command? with
  | some c => rw [encode_of_command? hc, c.decode_bytes, decodeCommand_of_command? hi hc]
  | none =>
    cases i with
    | frameWriteSingleRegister => rw [encode, Frame.decode_bytes, decodeFrame_writeFrameOf]
    | frameReadRegisters => rw [encode, Frame.decode_bytes, decodeFrame_readFrameOf]
    | _ => cases hc

/-- No bit of a command word is lost in its instruction. -/
theorem encode_decodeCommand (w : CmdWord) :
    encode (decodeCommand w) = (Command.mk (opField w) (aField w) (bField w)).bytes := by
  unfold decodeCommand
  split_ifs with h1 h2 h3 h6 h10 h11
  · rw [h1]; rfl
  · rw [h2]; rfl
  · rw [h3]; rfl
  · rw [h6]; rfl
  · rw [h10]; rfl
  · rw [h11, encode, high_append_low]
  · rfl

theorem encode_of_decodeFrame {f : Frame} {i : Instr} (h : decodeFrame f = .ok i) : encode i = f.bytes := by
  rcases decodeFrame_ok h with ⟨r, v, rfl, hf⟩ | ⟨a, n, rfl, hf⟩
  · exact congrArg Frame.bytes hf.symm
  · exact congrArg Frame.bytes hf.symm

/-- Settles O8, by the two lengths that decode (R86). -/
theorem encodeOfDecode : Obligations.EncodeOfDecode := by
  intro bs i h
  unfold decode at h
  split at h
  · next b0 b1 b2 b3 b4 =>
    rw [← Except.ok.inj h, encode_decodeCommand, opField_cmdOfBytes, aField_cmdOfBytes, bField_cmdOfBytes]
    simp only [Command.bytes, extract_high_append, extract_low_append]
  · exact encode_of_decodeFrame h
  · cases h

/-! ### The reserved operation codes -/

/-- The reserved operation codes, as R73 lists them. -/
theorem isReservedOp_iff_listed (op : Byte) : isReservedOp op = true ↔
    op = 0x00#8 ∨ op = 0x04#8 ∨ op = 0x05#8 ∨ (0x07 ≤ op.toNat ∧ op.toNat ≤ 0x0F) ∨
      (0x12 ≤ op.toNat ∧ op.toNat ≤ 0xFF) := by
  rw [isReservedOp_iff_not_assigned]
  simp only [ne_eq, BitVec.toNat_eq, BitVec.toNat_ofNat]
  omega

/-- A command word decodes to a reserved operation exactly when its operation code is reserved. -/
theorem decodeCommand_eq_reservedOp_iff (w : CmdWord) :
    (∃ op a b, decodeCommand w = .reservedOp op a b) ↔ isReservedOp (opField w) = true := by
  rw [isReservedOp_iff_not_assigned]
  unfold decodeCommand
  split_ifs with h1 h2 h3 h6 h10 h11 <;> simp [*]

/-- Settles O9: both sides say that the operation code is reserved. -/
theorem reservedOperationCodesAreThoseListed : Obligations.ReservedOperationCodesAreThoseListed :=
  fun w => (decodeCommand_eq_reservedOp_iff w).trans (isReservedOp_iff_listed (opField w))

/-- Settles O10: the eight words are decoded. -/
theorem specWordsDecode : Obligations.SpecWordsDecode := by
  refine ⟨?_, ?_, ?_, ?_, ?_, ?_, ?_, ?_⟩ <;> decide

/-! ### The assembler -/

theorem assemble_readRegs_of_fits {start count : Nat} (hs : start < 65536) (hc : count < 65536) :
    assemble (.readRegs start (some count)) =
      (Instr.readRegs (BitVec.ofNat 16 start) (BitVec.ofNat 16 count)).command? := by
  simp [assemble, Instr.command?, hs, hc]

theorem assemble_writeReg_of_fits {reg val : Nat} (hr : reg < 65536) (hv : val < 65536) :
    assemble (.writeReg reg val) =
      (Instr.writeReg (BitVec.ofNat 16 reg) (BitVec.ofNat 16 val)).command? := by
  simp [assemble, Instr.command?, hr, hv]

/-- The 8-bit operand of CRC_FEED is the low byte of `B`, with a zero byte above it. -/
theorem assemble_crcFeed_of_fits {b : Nat} (hb : b < 256) :
    assemble (.crcFeed b) = (Instr.crcFeed 0#16 0#8 (BitVec.ofNat 8 b)).command? := by
  have hword : BitVec.ofNat 16 b = 0#8 ++ BitVec.ofNat 8 b :=
    BitVec.eq_of_toNat_eq (((BitVec.toNat_append 0#8 (BitVec.ofNat 8 b)).trans (by simp; omega)).symm)
  simp [assemble, Instr.command?, hb, hword]

theorem assemble_readRegs_of_not_fits {start count : Nat} (h : 65536 ≤ start ∨ 65536 ≤ count) :
    assemble (.readRegs start (some count)) = none :=
  if_neg (by simp only [Option.getD_some]; omega)

theorem assemble_writeReg_of_not_fits {reg val : Nat} (h : 65536 ≤ reg ∨ 65536 ≤ val) :
    assemble (.writeReg reg val) = none :=
  if_neg (by omega)

theorem assemble_crcFeed_of_not_fits {b : Nat} (h : 256 ≤ b) : assemble (.crcFeed b) = none :=
  if_neg (by omega)

/-- A line that assembles to the command of a well-formed instruction decodes to that instruction. -/
theorem exists_assemble_decode {l : AsmLine} {i : Instr} {c : Command} (hi : WellFormed i = true)
    (hc : i.command? = some c) (hl : assemble l = i.command?) :
    ∃ c, assemble l = some c ∧ decodeCommand c.word = i :=
  ⟨c, hl.trans hc, decodeCommand_of_command? hi hc⟩

/-- Settles O11: each line that fits assembles to the command of its instruction. -/
theorem assembledLinesDecode : Obligations.AssembledLinesDecode :=
  ⟨⟨_, rfl, by decide, decodeCommand_of_command? rfl rfl⟩,
    ⟨_, rfl, by decide, decodeCommand_of_command? rfl rfl⟩,
    ⟨_, rfl, by decide, decodeCommand_of_command? rfl rfl⟩,
    fun _ _ hs hc => exists_assemble_decode rfl rfl (assemble_readRegs_of_fits hs hc),
    fun _ => rfl,
    fun _ _ hr hv => exists_assemble_decode rfl rfl (assemble_writeReg_of_fits hr hv),
    fun _ hb => exists_assemble_decode rfl rfl (assemble_crcFeed_of_fits hb),
    fun _ => assemble_crcFeed_of_not_fits,
    fun _ _ => assemble_readRegs_of_not_fits,
    fun _ _ => assemble_writeReg_of_not_fits⟩

end Sys2Proof
end

section
/-!
PROOFS. The read reply of 30_encoding.md: its layout (R81), the check it passes (R114) and the values read back
from it (R115).
-/

namespace Sys2Proof.Machine

/-- The bytes of register values, each high byte first (R81). -/
def valueBytes (vs : List Word) : List Byte := vs.flatMap fun v => [highByte v, lowByte v]

/-- A complete reply without its checksum (R81). -/
def replyBody (h0 h1 h2 : Byte) (vs : List Word) : List Byte := [h0, h1, h2] ++ valueBytes vs

theorem replyOf_eq (h0 h1 h2 : Byte) (vs : List Word) : replyOf h0 h1 h2 vs =
    replyBody h0 h1 h2 vs ++
      [lowByte (crc16 (replyBody h0 h1 h2 vs)), highByte (crc16 (replyBody h0 h1 h2 vs))] := rfl

@[simp] theorem length_valueBytes (vs : List Word) : (valueBytes vs).length = 2 * vs.length := by
  simp [valueBytes, List.length_flatMap, Nat.mul_comm]

@[simp] theorem length_replyBody (h0 h1 h2 : Byte) (vs : List Word) :
    (replyBody h0 h1 h2 vs).length = 3 + 2 * vs.length := by
  simp [replyBody]; omega

@[simp] theorem length_replyOf (h0 h1 h2 : Byte) (vs : List Word) :
    (replyOf h0 h1 h2 vs).length = 5 + 2 * vs.length := by
  simp [replyOf_eq]; omega

/-- A word is the value of its two bytes, high byte first. -/
@[simp] theorem joinWord_highByte_lowByte (v : Word) : joinWord (highByte v) (lowByte v) = v := by
  apply BitVec.eq_of_toNat_eq
  have := v.isLt
  simp [joinWord, highByte, lowByte, Nat.shiftRight_eq_div_pow]
  omega

/-- A reply long enough passes when the two bytes after its first `3 + 2 * n` are their checksum (R114). -/
theorem validateReadReply_of_checksum {chk : Bool} {body tail : List Byte} {k n : Nat}
    (hbody : body.length = 3 + 2 * n) (hk : 5 + 2 * n ≤ k) :
    validateReadReply chk (body ++ [lowByte (crc16 body), highByte (crc16 body)] ++ tail) k n = .ok := by
  have hmin : minReplyLen chk n ≤ k := by cases chk <;> simp [minReplyLen] <;> omega
  have hhi : 4 + 2 * n = body.length + 1 := by omega
  simp [validateReadReply, hmin.not_gt, computeChecksum, hhi, ← hbody]

/-- The two bytes at `2 * i` are those of value `i`. -/
theorem valueBytes_append_getD (vs : List Word) (tail : List Byte) {i : Nat} (hi : i < vs.length) :
    (valueBytes vs ++ tail).getD (2 * i) 0 = highByte vs[i] ∧
      (valueBytes vs ++ tail).getD (2 * i + 1) 0 = lowByte vs[i] := by
  induction vs generalizing i with
  | nil => exact absurd hi (Nat.not_lt_zero i)
  | cons v vs ih =>
    cases i with
    | zero => exact ⟨rfl, rfl⟩
    | succ i => exact ih (Nat.lt_of_succ_lt_succ hi)

/-- Value `i` of a reply, whatever follows its values (R115). -/
theorem replyValue_of_body {h0 h1 h2 : Byte} {vs : List Word} {tail : List Byte} {i : Nat}
    (hi : i < vs.length) : replyValue (replyBody h0 h1 h2 vs ++ tail) i = vs[i] := by
  obtain ⟨hhigh, hlow⟩ := valueBytes_append_getD vs tail hi
  have hindex : 4 + 2 * i = 2 * i + 1 + 3 := by omega
  rw [replyValue, hindex, Nat.add_comm 3]
  exact (congrArg₂ joinWord hhigh hlow).trans (joinWord_highByte_lowByte _)

/-- The values of a reply, whatever follows them (R115). -/
theorem decodeReadReply_of_body (h0 h1 h2 : Byte) (vs : List Word) (tail : List Byte) :
    decodeReadReply (replyBody h0 h1 h2 vs ++ tail) vs.length = vs :=
  List.ext_getElem (by simp [decodeReadReply]) fun i _ hi => by
    simp [decodeReadReply, replyValue_of_body hi]

/-- Settles O6: the checksum stands after the values, and the values before it. -/
theorem completeReplyDecodesToItsValues : Obligations.CompleteReplyDecodesToItsValues := by
  intro chk h0 h1 h2 vs tail k hk
  rw [length_replyOf] at hk
  refine ⟨validateReadReply_of_checksum (length_replyBody h0 h1 h2 vs) hk, ?_⟩
  rw [replyOf_eq, List.append_assoc]
  exact decodeReadReply_of_body h0 h1 h2 vs _

end Sys2Proof.Machine
end

section
/-!
PROOFS. What the reserved operation codes and the two frames of 30_encoding.md do (R73, R76, R77), and a whole
write transaction (R82).
-/

namespace Sys2Proof.Machine

/-! ### A reserved operation code -/

/-- What a command that fails its check leaves: `CUR`, the posted result and `RXLEN`, and nothing else (R133). -/
theorem raise_accept_of_idle {s : State} (hp : s.phase = .idle) (c : Command) (cause : ContractCause) :
    (s.accept c).raise (.contractViolation cause) =
      { s with
        cur := c, done := true, busy := false, err := true, errKind := 1#4, errSub := cause.code
        dcount := 0#2, rxLen := 0#4 } := by
  simp [State.raise, State.accept, hp]

/-- The first row of the check's table (R132). -/
theorem check_of_reservedOp {link : Link} {c : Command} (h : isReservedOp c.op = true) :
    check link c = some .illegalOp := by
  simp [check, h]

/-- Settles O19: the check ends the command. -/
theorem reservedOperationPostsIllegalOp : Obligations.ReservedOperationPostsIllegalOp := by
  intro s op a b hp hop
  have hcheck : check s.link ⟨op, a, b⟩ = some .illegalOp :=
    check_of_reservedOp ((isReservedOp_iff_listed op).mpr hop)
  exact congrArg Host.Outcome.next
    ((command_of_reject hp hcheck).trans (raise_accept_of_idle hp _ .illegalOp))

/-! ### The frames of phase TX -/

/-- What sending a frame leaves, by the transport's answer (R139). -/
theorem sendFrame_eq (s : State) (f : Frame) :
    s.sendFrame f =
      if s.draw.sendOk then
        { s with txBuf := f, wireLog := s.wireLog ++ [.tx f true], tMark := s.now, phase := .rx }
      else
        { s with
          txBuf := f, wireLog := s.wireLog ++ [.tx f false], phase := .idle
          done := true, busy := false, err := true, errKind := 2#4, errSub := 1#4, dcount := 0#2 } := by
  rcases sendFrame_cases s f with ⟨hok, he⟩ | ⟨hok, he⟩
  · rw [he, hok]; rfl
  · rw [he, hok]; rfl

theorem runFrame_of_tx {s : State} (hp : s.phase = .tx) (f : Frame) : s.runFrame f = s.sendFrame f :=
  if_pos hp

/-- Settles O20: in phase TX running the write frame is sending it. -/
theorem writeFrameIsSent : Obligations.WriteFrameIsSent := fun s addr reg val lo hi hp =>
  congrArg Host.Outcome.next
    ((runFrame_of_tx hp (writeFrameOf addr reg val lo hi)).trans (sendFrame_eq s _))

/-- Settles O21: in phase TX running the read frame is sending it. -/
theorem readFrameIsSent : Obligations.ReadFrameIsSent := fun s addr start count lo hi hp =>
  congrArg Host.Outcome.next
    ((runFrame_of_tx hp (readFrameOf addr start count lo hi)).trans (sendFrame_eq s _))

/-! ### A transaction, step by step

What one step leaves when its draw is laid down; `run_succ` joins the steps. -/

theorem run_succ {s t : State} (h : step s = .next t) (k : Nat) :
    Sys2Proof.core.run (k + 1) s = Sys2Proof.core.run k t := by
  have hcore : Sys2Proof.core.step s = .next t := h
  simp only [Host.Core.run, hcore]

/-- The coming draw is the first laid down (log entry 2). -/
theorem draw_of_pending {s : State} {d : Draw} {ds : List Draw} (h : s.pending = d :: ds) : s.draw = d := by
  simp [State.draw, h]

theorem phaseTurn_of_port_nil {s : State} (ha : s.draw.agent = .block) (hport : s.port = []) : s.PhaseTurn :=
  ⟨ha, by simp [State.fetchCommand, hport]⟩

/-- The block in IDLE runs the first word of the port (R130). -/
theorem step_of_command {s : State} {w : CmdWord} {rest : List CmdWord} (ha : s.draw.agent = .block)
    (hp : s.phase = .idle) (hport : s.port = w :: rest) :
    step s = finishStep (exec (decodeCommand w) { s with port := rest }) := by
  simp [step, agentMove, ha, blockMove, State.fetchCommand, hp, hport]

/-- A write passes its check when the link is open (R132). -/
theorem check_writeReg (reg val : Word) : check .opened ⟨0x06#8, reg, val⟩ = none := by
  simp [check, isReservedOp, assignedOps, reservedFieldsClear]

/-- Acceptance of a write puts its frame in TXBUF and enters TX (R137). -/
theorem exec_writeReg_of_opened {s : State} (hp : s.phase = .idle) (hl : s.link = .opened) (reg val : Word) :
    exec (.writeReg reg val) s = .next
      ((s.accept ⟨0x06#8, reg, val⟩).startTransaction (buildWriteFrame s.cfg.devAddr reg val)) :=
  congrArg Host.Outcome.next (command_of_check hp (hl ▸ check_writeReg reg val))

/-- The step that takes a write from the port. -/
theorem step_of_writeReg {s : State} {reg val : Word} {rest : List CmdWord} (ha : s.draw.agent = .block)
    (hp : s.phase = .idle) (hl : s.link = .opened)
    (hport : s.port = (Command.mk 0x06#8 reg val).word :: rest) :
    step s = .next ((({ s with port := rest } : State).accept ⟨0x06#8, reg, val⟩).startTransaction
      (buildWriteFrame s.cfg.devAddr reg val)).drawn := by
  have hdecode : decodeCommand (Command.mk 0x06#8 reg val).word = .writeReg reg val :=
    decodeCommand_of_command? rfl rfl
  rw [step_of_command ha hp hport, hdecode]
  exact congrArg finishStep (exec_writeReg_of_opened (s := { s with port := rest }) hp hl reg val)

/-- TX: the transport takes the frame (R139). -/
theorem step_of_tx {s : State} (hturn : s.PhaseTurn) (hp : s.phase = .tx) (hok : s.draw.sendOk = true) :
    step s = .next (s.logSend s.txBuf true).startReceive.drawn := by
  rw [step_of_phaseTurn hturn, phaseStep_of_tx hp, State.sendFrame, transportSend, if_pos hok]
  rfl

/-- The device's bytes arrive at the end of the FIFO (R216). -/
theorem step_of_deliver {s : State} {bs : List Byte} (ha : s.draw.agent = .transport)
    (hm : s.draw.transportMove = .deliver bs) (hl : s.link = .opened) :
    step s = .next ({ s with rxFifo := s.rxFifo ++ bs } : State).drawn := by
  simp [step, agentMove, ha, hm, transportMove, hl, finishStep]

/-- With bytes in the FIFO the first enabled step of RX is the receive (R140, R209). -/
theorem rxPhase_of_choice_zero {s : State} (hc : s.draw.rxChoice = 0) (hf : s.rxFifo ≠ []) :
    rxPhase s = s.receive s.receiveLength := by
  have hdata : s.rxEnabled .data = true := by simp [State.rxEnabled, hf]
  simp [rxPhase, State.rxSteps, List.filter_cons, hdata, hc, State.rxStep]

/-- A receive can take the whole FIFO (R140; log entry 21). -/
theorem receiveLength_eq_length {s : State} (hten : s.rxFifo.length ≤ 10)
    (hd : s.draw.recvLen + 1 = s.rxFifo.length) : s.receiveLength = s.rxFifo.length := by
  have hmin : min Config.replyBufLen s.rxFifo.length = s.rxFifo.length := Nat.min_eq_right hten
  rw [State.receiveLength, hmin, Nat.mod_eq_of_lt (by omega)]
  omega

/-- RX: the whole FIFO is received in one piece (R140). -/
theorem step_of_rx_whole {s : State} (hturn : s.PhaseTurn) (hp : s.phase = .rx)
    (hc : s.draw.rxChoice = 0) (hten : s.rxFifo.length ≤ 10) (hd : s.draw.recvLen + 1 = s.rxFifo.length) :
    step s = .next (s.receive s.rxFifo.length).drawn := by
  have hne : s.rxFifo ≠ [] := List.ne_nil_of_length_eq_add_one hd.symm
  rw [step_of_phaseTurn hturn, phaseStep, hp, rxPhase_of_choice_zero hc hne, receiveLength_eq_length hten hd]
  rfl

theorem step_of_decode {s : State} (hturn : s.PhaseTurn) (hp : s.phase = .decode) :
    step s = .next (decodePhase s).drawn := by
  rw [step_of_phaseTurn hturn, phaseStep, hp]
  rfl

theorem step_of_clock {s : State} (ha : s.draw.agent = .clock) :
    step s = .next (clockMove s.draw.tick s).drawn := by
  simp [step, agentMove, ha, finishStep]

theorem step_of_settle {s : State} (hturn : s.PhaseTurn) (hp : s.phase = .settle) :
    step s = .next (settlePhase s).drawn := by
  rw [step_of_phaseTurn hturn, phaseStep, hp]
  rfl

/-- The reply of a write is not interpreted (R143). -/
theorem decodePhase_of_write {s : State} (hop : s.cur.op = 0x06#8) : decodePhase s = s.startSettle :=
  if_neg (by rw [hop]; decide)

/-- A write posts success without data once the interval has passed (R145). -/
theorem settlePhase_of_write {s : State} (hop : s.cur.op = 0x06#8)
    (hpassed : s.cfg.settleMs ≤ s.now - s.tMark) : settlePhase s = s.postOk 0 0#16 0#16 := by
  have helapsed : s.elapsed s.cfg.settleMs = true := decide_eq_true hpassed
  have hwrite : ¬ s.cur.op = fcRead := by rw [hop]; decide
  simp only [settlePhase, helapsed, hwrite, if_true, if_false]

/-! ### A whole transaction -/

/-- Three draws that lead from TX to DECODE: the frame is sent, `reply` arrives, and it is received whole. -/
structure RepliesWhole (reply : List Byte) (d1 d2 d3 : Draw) : Prop where
  sendAgent : d1.agent = .block
  sendOk : d1.sendOk = true
  deliverAgent : d2.agent = .transport
  deliver : d2.transportMove = .deliver reply
  receiveAgent : d3.agent = .block
  receiveChoice : d3.rxChoice = 0
  receiveLen : d3.recvLen + 1 = reply.length

/-- What the step of TX leaves when the frame is sent. -/
def State.sent (s : State) : State := (s.logSend s.txBuf true).startReceive.drawn

/-- What the transport's step leaves when `reply` arrives. -/
def State.arrived (s : State) (reply : List Byte) : State :=
  ({ s with rxFifo := s.rxFifo ++ reply } : State).drawn

/-- What the three draws of `RepliesWhole` leave of a state in TX. -/
def State.replied (s : State) (reply : List Byte) : State :=
  ((s.sent.arrived reply).receive reply.length).drawn

theorem run_replied {s : State} {reply : List Byte} {d1 d2 d3 : Draw} {ds : List Draw}
    (hd : RepliesWhole reply d1 d2 d3) (hpend : s.pending = d1 :: d2 :: d3 :: ds) (hp : s.phase = .tx)
    (hl : s.link = .opened) (hport : s.port = []) (hfifo : s.rxFifo = []) (hten : reply.length ≤ 10)
    (k : Nat) : Sys2Proof.core.run (k + 3) s = Sys2Proof.core.run k (s.replied reply) := by
  have hdraw1 : s.draw = d1 := draw_of_pending hpend
  have hdraw2 : s.sent.draw = d2 := draw_of_pending (ds := d3 :: ds) (by simp [State.sent, hpend])
  have hdraw3 : (s.sent.arrived reply).draw = d3 :=
    draw_of_pending (ds := ds) (by simp [State.sent, State.arrived, hpend])
  have hwhole : (s.sent.arrived reply).rxFifo = reply := by simp [State.sent, State.arrived, hfifo]
  have hsend : step s = .next s.sent :=
    step_of_tx (phaseTurn_of_port_nil (hdraw1 ▸ hd.sendAgent) hport) hp (hdraw1 ▸ hd.sendOk)
  have hdeliver : step s.sent = .next (s.sent.arrived reply) :=
    step_of_deliver (hdraw2 ▸ hd.deliverAgent) (hdraw2 ▸ hd.deliver) hl
  have hreceive := step_of_rx_whole (s := s.sent.arrived reply)
    (phaseTurn_of_port_nil (hdraw3 ▸ hd.receiveAgent) hport) rfl (hdraw3 ▸ hd.receiveChoice)
    (hwhole.symm ▸ hten) (by rw [hdraw3, hwhole]; exact hd.receiveLen)
  rw [hwhole] at hreceive
  rw [run_succ hsend, run_succ hdeliver, run_succ hreceive]
  rfl

theorem replied_rxLen_toNat (s : State) {reply : List Byte} (hten : reply.length ≤ 10) :
    (s.replied reply).rxLen.toNat = reply.length :=
  receive_rxLen_toNat (s := s.sent.arrived reply) hten

theorem replied_wireLog {s : State} {reply : List Byte} (hfifo : s.rxFifo = []) :
    (s.replied reply).wireLog = s.wireLog ++ [.tx s.txBuf true, .rx reply] := by
  simp [State.replied, State.arrived, State.sent, hfifo]

theorem replied_pending {s : State} {d1 d2 d3 : Draw} {ds : List Draw} (reply : List Byte)
    (hpend : s.pending = d1 :: d2 :: d3 :: ds) : (s.replied reply).pending = ds := by
  simp [State.replied, State.arrived, State.sent, hpend]

/-- Three draws that lead from DECODE to the end of SETTLE: the block moves, `ms` pass, the block moves. -/
structure SettlesAfter (ms : Nat) (d4 d5 d6 : Draw) : Prop where
  decodeAgent : d4.agent = .block
  clockAgent : d5.agent = .clock
  interval : ms ≤ d5.tick
  settleAgent : d6.agent = .block

/-- What DECODE and a step of the clock leave when the settle interval was started. -/
def State.settled (s : State) (tick : Nat) : State := (clockMove tick s.startSettle.drawn).drawn

/-- The interval that was started has passed when the clock has moved by it. -/
theorem settled_passed {s : State} {tick : Nat} (h : s.cfg.settleMs ≤ tick) :
    (s.settled tick).cfg.settleMs ≤ (s.settled tick).now - (s.settled tick).tMark := by
  simp only [State.settled, clockMove, State.drawn_cfg, State.drawn_now, State.drawn_tMark,
    State.startSettle_cfg, State.startSettle_now, State.startSettle_tMark]
  omega

theorem run_settled {s : State} {d4 d5 d6 : Draw} {ds : List Draw} (hd : SettlesAfter s.cfg.settleMs d4 d5 d6)
    (hpend : s.pending = d4 :: d5 :: d6 :: ds) (hp : s.phase = .decode) (hport : s.port = [])
    (hchecked : decodePhase s = s.startSettle) (k : Nat) :
    Sys2Proof.core.run (k + 3) s = Sys2Proof.core.run k (settlePhase (s.settled d5.tick)).drawn := by
  have hdraw4 : s.draw = d4 := draw_of_pending hpend
  have hdraw5 : s.startSettle.drawn.draw = d5 := draw_of_pending (ds := d6 :: ds) (by simp [hpend])
  have hdraw6 : (s.settled d5.tick).draw = d6 :=
    draw_of_pending (ds := ds) (by simp [State.settled, clockMove, hpend])
  have hdecode := step_of_decode (phaseTurn_of_port_nil (hdraw4 ▸ hd.decodeAgent) hport) hp
  have hclock := step_of_clock (s := s.startSettle.drawn) (hdraw5 ▸ hd.clockAgent)
  have hsettle := step_of_settle (s := s.settled d5.tick)
    (phaseTurn_of_port_nil (hdraw6 ▸ hd.settleAgent) hport) rfl
  rw [hchecked] at hdecode
  rw [hdraw5] at hclock
  rw [run_succ hdecode, run_succ hclock, ← State.settled, run_succ hsettle]

/-- What acceptance of a write leaves of a state with that one word on the port. -/
def State.writeStarted (s : State) (reg val : Word) : State :=
  ((({ s with port := [] } : State).accept ⟨0x06#8, reg, val⟩).startTransaction
    (buildWriteFrame s.cfg.devAddr reg val)).drawn

/-- Settles O58: acceptance, then TX to DECODE, then DECODE to the end of SETTLE. -/
theorem writeTransactionIgnoresTheReply : Obligations.WriteTransactionIgnoresTheReply := by
  intro s reg val reply d0 d1 d2 d3 d4 d5 d6 hp hl hfifo _ hten hport hpend h0 h1 hok h2 hdeliver h3 hchoice
    hlen h4 h5 htick h6
  have hstart : step s = .next (s.writeStarted reg val) :=
    step_of_writeReg (draw_of_pending hpend ▸ h0) hp hl hport
  have hreplies : RepliesWhole reply d1 d2 d3 := ⟨h1, hok, h2, hdeliver, h3, hchoice, hlen⟩
  have hsettles : SettlesAfter s.cfg.settleMs d4 d5 d6 := ⟨h4, h5, htick, h6⟩
  have hpend' : (s.writeStarted reg val).pending = [d1, d2, d3, d4, d5, d6] := congrArg List.tail hpend
  have hreply := run_replied hreplies hpend' rfl hl rfl hfifo hten 3
  have hsettle := run_settled (s := (s.writeStarted reg val).replied reply) hsettles
    (replied_pending reply hpend') rfl rfl (decodePhase_of_write rfl) 0
  have hposted := settlePhase_of_write (s := ((s.writeStarted reg val).replied reply).settled d5.tick) rfl
    (settled_passed htick)
  rw [hposted] at hsettle
  have hrun := (run_succ hstart 6).trans (hreply.trans hsettle)
  exact ⟨_, hrun, rfl, rfl, rfl, rfl, replied_rxLen_toNat (s.writeStarted reg val) hten, hl,
    replied_wireLog (s := s.writeStarted reg val) hfifo⟩

end Sys2Proof.Machine
end

section
/-!
PROOFS. The statements of 40_crc.md: the residue of a sequence with its checksum (R107), and the two host commands
of the generator (R104, R105).
-/

namespace Sys2Proof.Machine

/-! ### The residue

The checksum byte cancels the low byte of the register, so the 8 iterations that follow meet no low bit that is 1:
they only shift. Two such steps empty the register. -/

theorem crcShift_of_low_bit_zero {r : Word} (h : r.getLsbD 0 = false) : crcShift r = r >>> 1 :=
  if_neg (ne_true_of_eq_false h)

/-- As long as the low bit is 0, an iteration only shifts (R100). -/
theorem crcShifts_of_low_bits_zero {n : Nat} {r : Word} (h : ∀ i < n, r.getLsbD i = false) :
    crcShifts n r = r >>> n := by
  induction n generalizing r with
  | zero => simp [crcShifts]
  | succ n ih =>
    have hrest : ∀ i < n, (r >>> 1).getLsbD i = false := fun i hi => by
      simpa using h (1 + i) (by omega)
    rw [crcShifts, crcShift_of_low_bit_zero (h 0 n.succ_pos), ih hrest, ← BitVec.shiftRight_add,
      Nat.add_comm]

/-- A register fed its own low byte loses it. -/
theorem crcStep_lowByte (r : Word) : crcStep r (lowByte r) = r >>> 8 := by
  have hlow : ∀ i < 8, (r ^^^ (lowByte r).setWidth 16).getLsbD i = false := fun i hi => by
    simp [lowByte, hi, show i < 16 by omega]
  have hhigh : ((lowByte r).setWidth 16) >>> 8 = 0#16 :=
    BitVec.eq_of_getLsbD_eq fun i hi => by simp [lowByte]
  rw [crcStep, crcShifts_of_low_bits_zero hlow, BitVec.ushiftRight_xor_distrib, hhigh, BitVec.xor_zero]

/-- A register fed both its bytes, the low one first, is 0. -/
theorem crcFrom_own_bytes (r : Word) : crcFrom r [lowByte r, highByte r] = 0#16 := by
  have hhigh : highByte r = lowByte (r >>> 8) := rfl
  rw [crcFrom_cons, crcStep_lowByte, crcFrom_cons, hhigh, crcStep_lowByte, crcFrom_nil,
    ← BitVec.shiftRight_add]
  exact BitVec.ushiftRight_eq_zero le_rfl

theorem crc16_append_checksum (bs : List Byte) :
    crc16 (bs ++ [lowByte (crc16 bs), highByte (crc16 bs)]) = 0#16 :=
  (crcFrom_append crcInitValue bs _).trans (crcFrom_own_bytes (crc16 bs))

/-- A frame that carries the checksum of its first six bytes has the residue 0, whatever those bytes are. -/
theorem crc16_bytes_of_checksum {f : Frame}
    (hlo : f.crcLo = lowByte (crc16 [f.addr, f.fc, f.f1hi, f.f1lo, f.f2hi, f.f2lo]))
    (hhi : f.crcHi = highByte (crc16 [f.addr, f.fc, f.f1hi, f.f1lo, f.f2hi, f.f2lo])) :
    crc16 f.bytes = 0#16 := by
  rw [Frame.bytes, hlo, hhi]
  exact crc16_append_checksum [f.addr, f.fc, f.f1hi, f.f1lo, f.f2hi, f.f2lo]

/-- Settles O1: every frame named there carries the checksum of its first six bytes. -/
theorem crcResidueIsZero : Obligations.CrcResidueIsZero := by
  refine ⟨crc16_append_checksum, fun _ _ _ => crc16_bytes_of_checksum rfl rfl,
    fun _ _ _ => crc16_bytes_of_checksum rfl rfl, fun s f ok hframes hf => ?_⟩
  obtain ⟨-, -, hlo, hhi⟩ := hframes f ok hf
  exact crc16_bytes_of_checksum hlo hhi

/-! ### CRC_INIT and CRC_FEED -/

/-- Of the table of R132 only the reserved fields concern the two commands of the generator, whatever the link. -/
theorem check_of_crcOp {link : Link} {c : Command} (h : c.op = 0x10#8 ∨ c.op = 0x11#8) :
    check link c = if reservedFieldsClear c then none else some .reservedField := by
  cases hz : reservedFieldsClear c with
  | false => rcases h with h | h <;> simp [check, isReservedOp, assignedOps, h, hz]
  | true => rcases h with h | h <;> simp [check, isReservedOp, assignedOps, isTransactionOp, h, hz]

theorem check_crcInit (link : Link) (a b : Word) :
    check link ⟨0x10#8, a, b⟩ = if a = 0#16 ∧ b = 0#16 then none else some .reservedField := by
  simp [check_of_crcOp, reservedFieldsClear]

theorem check_crcFeed (link : Link) (a : Word) (bHi b : Byte) :
    check link ⟨0x11#8, a, bHi ++ b⟩ = if a = 0#16 ∧ bHi = 0#8 then none else some .reservedField := by
  simp [check_of_crcOp, reservedFieldsClear, extract_high_append]

/-- A command whose check fails in one way is carried out or ended by that cause (R131, R133). -/
theorem command_of_check_ite {s : State} {c : Command} {act : State → State} {p : Prop} [Decidable p]
    {cause : ContractCause} (hp : s.phase = .idle)
    (hc : check s.link c = if p then none else some cause) :
    s.command c act = if p then act (s.accept c) else (s.accept c).raise (.contractViolation cause) := by
  by_cases h : p
  · rw [if_pos h] at hc ⊢
    exact command_of_check hp hc
  · rw [if_neg h] at hc ⊢
    exact command_of_reject hp hc

/-- CRC_INIT in IDLE (R104). -/
theorem exec_crcInit_of_idle {s : State} (hp : s.phase = .idle) (a b : Word) :
    exec (.crcInit a b) s = .next
      (if a = 0#16 ∧ b = 0#16 then (s.accept ⟨0x10#8, a, b⟩).postCrc crcInitValue
      else (s.accept ⟨0x10#8, a, b⟩).raise (.contractViolation .reservedField)) :=
  congrArg Host.Outcome.next (command_of_check_ite hp (check_crcInit s.link a b))

/-- CRC_FEED in IDLE (R105). -/
theorem exec_crcFeed_of_idle {s : State} (hp : s.phase = .idle) (a : Word) (bHi b : Byte) :
    exec (.crcFeed a bHi b) s = .next
      (if a = 0#16 ∧ bHi = 0#8 then (s.accept ⟨0x11#8, a, bHi ++ b⟩).postCrc (crcStep s.crcAcc b)
      else (s.accept ⟨0x11#8, a, bHi ++ b⟩).raise (.contractViolation .reservedField)) :=
  congrArg Host.Outcome.next (command_of_check_ite hp (check_crcFeed s.link a bHi b))

/-- What a command of the generator leaves: `CUR`, the accumulator, the posted result and `RXLEN`, and nothing
else (R104, R105). -/
theorem postCrc_accept_of_idle {s : State} (hp : s.phase = .idle) (c : Command) (r : Word) :
    (s.accept c).postCrc r =
      { s with
        cur := c, crcAcc := r, data0 := r
        done := true, busy := false, err := false, errKind := 0#4, errSub := 0#4
        dcount := 1#2, rxLen := 0#4 } := by
  simp [State.postCrc, State.postOk, State.accept, hp]

/-- Settles O17: in flight the command is held, in IDLE carried out or rejected. -/
theorem crcInitLoadsAllOnes : Obligations.CrcInitLoadsAllOnes := by
  refine ⟨by decide, fun s a b hp => congrArg Host.Outcome.next (command_of_busy hp), fun s a b hp => ?_⟩
  rw [exec_crcInit_of_idle hp, postCrc_accept_of_idle hp, raise_accept_of_idle hp]
  rfl

/-- Settles O18: in IDLE the command is carried out or rejected. -/
theorem crcFeedAdvancesTheAccumulator : Obligations.CrcFeedAdvancesTheAccumulator := by
  intro s a bHi b hp
  rw [exec_crcFeed_of_idle hp, postCrc_accept_of_idle hp, raise_accept_of_idle hp]
  rfl

/-! ### A host computation -/

/-- `t` is in IDLE with `r` in the accumulator and posted, and with the wire log, `TXBUF` and the link of `s`. -/
structure CrcPosted (s : State) (r : Word) (t : State) : Prop where
  crcAcc : t.crcAcc = r
  data0 : t.data0 = r
  dcount : t.dcount = 1#2
  err : t.err = false
  phase : t.phase = .idle
  wireLog : t.wireLog = s.wireLog
  txBuf : t.txBuf = s.txBuf
  link : t.link = s.link

theorem crcPosted_postCrc_accept (s : State) (c : Command) (r : Word) :
    CrcPosted s r ((s.accept c).postCrc r) :=
  ⟨rfl, rfl, rfl, rfl, rfl, rfl, rfl, rfl⟩

/-- The next command of the generator goes on from what the one before it left. -/
theorem CrcPosted.trans {s u t : State} {q r : Word} (hu : CrcPosted s q u) (ht : CrcPosted u r t) :
    CrcPosted s r t :=
  { ht with
    wireLog := ht.wireLog.trans hu.wireLog
    txBuf := ht.txBuf.trans hu.txBuf
    link := ht.link.trans hu.link }

/-- An instruction that answers a next state hands it to those that follow. -/
theorem execAll_cons_of_next {i : Instr} {is : List Instr} {s t : State} (h : exec i s = .next t) :
    execAll (i :: is) s = execAll is t := by
  simp [execAll, h]

/-- CRC_FEED of each byte in turn takes the accumulator where `crcFrom` takes it. -/
theorem execAll_crcFeed {s u : State} {r : Word} (bs : List Byte) (hu : CrcPosted s r u) :
    ∃ t, execAll (bs.map fun b => .crcFeed 0#16 0#8 b) u = .next t ∧ CrcPosted s (crcFrom r bs) t := by
  induction bs generalizing u r with
  | nil => exact ⟨u, rfl, hu⟩
  | cons b bs ih =>
    have hfed := hu.trans (crcPosted_postCrc_accept u ⟨0x11#8, 0#16, 0#8 ++ b⟩ (crcStep r b))
    have hexec := exec_crcFeed_of_idle hu.phase 0#16 0#8 b
    rw [if_pos ⟨rfl, rfl⟩, hu.crcAcc] at hexec
    rw [List.map_cons, execAll_cons_of_next hexec]
    exact ih hfed

/-- Settles O2: CRC_INIT starts the accumulator where `crc16` starts, and the feeds go on from there. -/
theorem feedingBytesComputesCrcSixteen : Obligations.FeedingBytesComputesCrcSixteen := by
  intro s bs hp
  have hexec := exec_crcInit_of_idle hp 0#16 0#16
  rw [if_pos ⟨rfl, rfl⟩] at hexec
  obtain ⟨t, hrun, hacc, hdata, hcount, herr, hphase, hlog, htx, hlink⟩ :=
    execAll_crcFeed bs (crcPosted_postCrc_accept s ⟨0x10#8, 0#16, 0#16⟩ crcInitValue)
  exact ⟨t, (execAll_cons_of_next hexec).trans hrun, hacc, hdata, hcount, herr, hphase, hlog, htx, hlink⟩

end Sys2Proof.Machine
end

section
/-!
PROOFS. The statements of 41_frame_codec.md: the pair of bytes of a word (R111), the layout of both frames (R112,
R113), the answers of the reply check (R114), and that every frame sent is valid (R116).
-/

namespace Sys2Proof.Machine

/-! ### The bytes of words and frames -/

/-- Settles O3: quotient and remainder by 256 both fit a byte. -/
theorem splitWordRecombines : Obligations.SplitWordRecombines := by
  intro v
  have hhi : v.toNat / 256 < 256 := Nat.div_lt_of_lt_mul v.isLt
  have hlo : v.toNat % 256 < 256 := Nat.mod_lt _ (by decide)
  simp only [splitWord, BitVec.toNat_ofNat, Nat.reducePow, Nat.mod_eq_of_lt hhi, Nat.mod_eq_of_lt hlo]
  exact Nat.div_add_mod' v.toNat 256

/-- The bytes of a sealed frame: the six given, then their checksum, low byte first (R75, R102). -/
theorem bytes_sealFrame (addr fc f1hi f1lo f2hi f2lo : Byte) :
    (sealFrame addr fc f1hi f1lo f2hi f2lo).bytes =
      [addr, fc, f1hi, f1lo, f2hi, f2lo] ++
        [(crc16 [addr, fc, f1hi, f1lo, f2hi, f2lo]).extractLsb' 0 8,
          (crc16 [addr, fc, f1hi, f1lo, f2hi, f2lo]).extractLsb' 8 8] := by
  rw [← lowByte_eq_extract, ← highByte_eq_extract]
  rfl

/-- Settles O4: both builders seal six bytes, and `splitWord` gives the two bit fields of a word. -/
theorem builtFramesHaveTheWireLayout : Obligations.BuiltFramesHaveTheWireLayout := by
  refine ⟨fun dev reg val => ?_, fun dev start n => bytes_sealFrame dev fcRead 0x00#8 start 0x00#8 n⟩
  rw [buildWriteFrame, bytes_sealFrame]
  simp only [splitWord_eq, highByte_eq_extract, lowByte_eq_extract, fcWrite]

/-! ### The reply check -/

/-- `MINLEN` (R83) as a header, a checksum when it is asked for, and the values. -/
theorem minReplyLen_eq (chk : Bool) (n : Nat) : minReplyLen chk n = (if chk then 5 else 3) + 2 * n := by
  cases chk <;> rfl

/-- Two bytes are a checksum when they are its low and its high byte (R102). -/
theorem eq_computeChecksum_iff (lo hi : Byte) (bs : List Byte) :
    (lo, hi) = computeChecksum bs ↔ lo = lowByte (crc16 bs) ∧ hi = highByte (crc16 bs) :=
  Prod.mk_inj

section
variable {chk : Bool} {rx : List Byte} {k n : Nat}

theorem validateReadReply_eq_short_iff :
    validateReadReply chk rx k n = .short ↔ k < minReplyLen chk n := by
  unfold validateReadReply
  split_ifs with hk hsum <;> simp [hk]

theorem validateReadReply_eq_badCrc_iff :
    validateReadReply chk rx k n = .badCrc ↔ minReplyLen chk n ≤ k ∧ chk = true ∧
      (rx.getD (3 + 2 * n) 0, rx.getD (4 + 2 * n) 0) ≠ computeChecksum (rx.take (3 + 2 * n)) := by
  unfold validateReadReply
  split_ifs with hk hsum
  · simp [hk]
  · exact iff_of_true rfl ⟨Nat.le_of_not_lt hk, hsum⟩
  · exact iff_of_false (by decide) fun h => hsum h.2

/-- A reply passes when it meets neither of the two failures. -/
theorem validateReadReply_eq_ok_iff :
    validateReadReply chk rx k n = .ok ↔ minReplyLen chk n ≤ k ∧ (chk = true →
      (rx.getD (3 + 2 * n) 0, rx.getD (4 + 2 * n) 0) = computeChecksum (rx.take (3 + 2 * n))) := by
  unfold validateReadReply
  split_ifs with hk hsum
  · simp [hk]
  · exact iff_of_false (by decide) fun h => hsum.2 (h.2 hsum.1)
  · exact iff_of_true rfl ⟨Nat.le_of_not_lt hk, fun hchk => not_not.mp fun hne => hsum ⟨hchk, hne⟩⟩

end

/-- Settles O5: each answer by its own condition. -/
theorem replyCheckFollowsLengthThenChecksum : Obligations.ReplyCheckFollowsLengthThenChecksum := by
  intro chk rx k n
  simp only [← minReplyLen_eq, ← eq_computeChecksum_iff]
  exact ⟨validateReadReply_eq_short_iff, validateReadReply_eq_badCrc_iff, validateReadReply_eq_ok_iff⟩

/-! ### The frames on the wire -/

/-- A sealed frame with one of the two function codes is valid, whatever its fields (R116). -/
theorem frameValid_sealFrame {fc : Byte} (hfc : fc = 0x03#8 ∨ fc = 0x06#8) (addr f1hi f1lo f2hi f2lo : Byte) :
    FrameValid addr (sealFrame addr fc f1hi f1lo f2hi f2lo) :=
  ⟨rfl, hfc, rfl, rfl⟩

/-- The frame of a latched transaction is valid, write or read (R137, R138). -/
theorem frameValid_requestFrame (s : State) : FrameValid s.cfg.devAddr (requestFrame s) := by
  unfold requestFrame
  split
  · exact frameValid_sealFrame (.inr rfl) _ _ _ _ _
  · exact frameValid_sealFrame (.inl rfl) _ _ _ _ _

/-- The step that takes a command sends no frame. -/
theorem CommandMove.mem_wireLog_of_tx {s u : State} {i : Instr} {f : Frame} {ok : Bool}
    (h : CommandMove s i u) (hf : .tx f ok ∈ u.wireLog) : .tx f ok ∈ s.wireLog := by
  cases h with
  | connected | connectFailed | closed => simpa using hf
  | _ => exact hf

/-- A phase in flight sends no frame but the one in TXBUF (R139). -/
theorem PhaseMove.mem_wireLog_of_tx {s u : State} {f : Frame} {ok : Bool} (h : PhaseMove s u)
    (hf : .tx f ok ∈ u.wireLog) : .tx f ok ∈ s.wireLog ∨ f = s.txBuf := by
  cases h with
  | sent | sendFailed =>
    have hlog : WireEvent.tx f ok ∈ s.wireLog ++ [.tx s.txBuf _] := hf
    exact (List.mem_append.mp hlog).imp_right fun hnew => (WireEvent.tx.inj (List.mem_singleton.mp hnew)).1
  | received => exact .inl (by simpa using hf)
  | _ => exact .inl hf

/-- A frame in the log after a move was there before, or stood in TXBUF with a transaction in flight. -/
theorem Move.mem_wireLog_of_tx {s u : State} {f : Frame} {ok : Bool} (h : Move s u)
    (hf : .tx f ok ∈ u.wireLog) : .tx f ok ∈ s.wireLog ∨ (s.phase ≠ .idle ∧ f = s.txBuf) := by
  cases h with
  | command _ _ _ _ _ _ hm => exact .inl (hm.mem_wireLog_of_tx hf)
  | aborted => exact .inl (by simpa [abortAction] using hf)
  | phase _ _ hm => exact (hm.mem_wireLog_of_tx hf).imp_right fun htx => ⟨hm.phase_ne_idle, htx⟩
  | stayed | presented | reset | channel | ticked => exact .inl hf

/-- Settles O46: a frame that is new in the log is the one in TXBUF, which in flight is the frame of the latched
transaction. -/
theorem stepKeepsWireFramesValid : Obligations.StepKeepsWireFramesValid := by
  intro s t ⟨_, _, _, _, hreq, _⟩ hframes h f ok hf
  obtain ⟨u, rfl, hm⟩ := step_move h
  have hcfg : u.drawn.cfg = s.cfg := hm.cfg
  rw [hcfg]
  rcases hm.mem_wireLog_of_tx hf with hold | ⟨hp, rfl⟩
  · exact hframes f ok hold
  · obtain ⟨-, -, htx⟩ := hreq hp
    exact htx ▸ frameValid_requestFrame s

end Sys2Proof.Machine
end

section
/-!
PROOFS. The commands of 42_transactions.md: the contract check (R132, R133), the hold in flight (R130), and the
whole next state of CONNECT, CLOSE, WRITE_REG and READ_REGS (R134 to R138).
-/

namespace Sys2Proof.Machine

/-! ### The contract check -/

/-- Settles O22, command by command; the rows of the others drop out of the table. -/
theorem contractCheckFollowsItsTable : Obligations.ContractCheckFollowsItsTable := by
  intro link i c hi hc
  cases i with
  | frameWriteSingleRegister | frameReadRegisters => cases hc
  | reservedOp op a b => cases hc; exact check_of_reservedOp hi
  | crcInit a b => cases hc; simp only [check_crcInit, contractFailure, ne_eq, ← not_and_or, ite_not]
  | crcFeed a bHi b => cases hc; simp only [check_crcFeed, contractFailure, ne_eq, ← not_and_or, ite_not]
  | connect a b | close a b | writeReg reg val =>
    cases hc
    simp [check, contractFailure, isReservedOp, assignedOps, reservedFieldsClear, isTransactionOp]
  | readRegs start count =>
    cases hc
    simp [check, contractFailure, isReservedOp, assignedOps, reservedFieldsClear, isTransactionOp,
      Config.maxRegsPerRead, BitVec.toNat_eq]

/-! ### Commands that are held or rejected -/

/-- Every command instruction but the CLOSE that aborts is latched, checked and carried out as R131 says. -/
theorem exec_eq_command {s : State} {i : Instr} {c : Command} (hc : i.command? = some c)
    (hi : s.phase = .idle ∨ i ≠ .close 0#16 0#16) : ∃ act, exec i s = .next (s.command c act) := by
  cases i with
  | frameWriteSingleRegister | frameReadRegisters => cases hc
  | close a b =>
    cases hc
    have hexact : ¬ (s.phase ≠ .idle ∧ a = 0#16 ∧ b = 0#16) := by
      rintro ⟨hp, rfl, rfl⟩
      exact hi.elim hp fun hne => hne rfl
    exact ⟨closeAction, congrArg Host.Outcome.next (if_neg hexact)⟩
  | _ => cases hc; exact ⟨_, rfl⟩

/-- Settles O23: a failing check ends the command. -/
theorem failedCheckDoesNoWork : Obligations.FailedCheckDoesNoWork := by
  intro s i c cause hp hi hc hfail
  obtain ⟨act, hexec⟩ := exec_eq_command hc (.inl hp)
  have hcheck : check s.link c = some cause := (contractCheckFollowsItsTable s.link i c hi hc).trans hfail
  rw [hexec, command_of_reject hp hcheck, raise_accept_of_idle hp]

/-- Settles O24: a command in flight is held, and a frame runs in phase TX only. -/
theorem commandInFlightChangesNothing : Obligations.CommandInFlightChangesNothing := by
  refine ⟨fun s i c hp hc hi => ?_, fun s i hp hc => ?_⟩
  · obtain ⟨act, hexec⟩ := exec_eq_command hc (.inr hi)
    rw [hexec, command_of_busy hp]
  · cases i with
    | frameWriteSingleRegister | frameReadRegisters => exact congrArg Host.Outcome.next (if_neg hp)
    | _ => cases hc

/-! ### CONNECT and CLOSE -/

/-- CONNECT past its checks, by the transport's answer (R134). -/
theorem connectAction_accept_of_idle {s : State} (hp : s.phase = .idle) (c : Command) :
    connectAction (s.accept c) =
      if s.draw.connectOk then
        { s with
          cur := c, link := .opened
          rxFifo := [], rxClosed := false, rxError := false
          wireLog := s.wireLog ++ [.connect true]
          done := true, busy := false, err := false, errKind := 0#4, errSub := 0#4
          dcount := 0#2, rxLen := 0#4 }
      else
        { s with
          cur := c
          wireLog := s.wireLog ++ [.connect false]
          done := true, busy := false, err := true, errKind := 2#4, errSub := 5#4
          dcount := 0#2, rxLen := 0#4 } := by
  have hdraw : (s.accept c).draw = s.draw := rfl
  rcases connectAction_cases (s.accept c) with ⟨hok, he⟩ | ⟨hok, he⟩
  · rw [he, ← hdraw, if_pos hok]
    simp [State.postOk, State.freshChannel, State.logEvent, State.accept, hp]
  · rw [he, ← hdraw, hok]
    simp [State.raise, State.logEvent, State.accept, hp, TransportCause.code]

/-- Settles O12: the two failing rows of the check, then the transport's answer; in flight CONNECT is held. -/
theorem connectOpensOrFails : Obligations.ConnectOpensOrFails := by
  refine ⟨by decide, fun s a b hp => ?_,
    fun s a b hp => commandInFlightChangesNothing.1 s _ _ hp rfl (by simp)⟩
  have rejected {cause} := failedCheckDoesNoWork s (.connect a b) _ cause hp rfl rfl
  by_cases hz : a ≠ 0#16 ∨ b ≠ 0#16
  · rw [if_pos hz]
    exact rejected (if_pos hz)
  by_cases hl : s.link = .opened
  · rw [if_neg hz, if_pos hl]
    exact rejected ((if_neg hz).trans (if_pos hl))
  · have hcheck : check s.link ⟨0x01#8, a, b⟩ = none :=
      (contractCheckFollowsItsTable s.link (.connect a b) _ rfl rfl).trans ((if_neg hz).trans (if_neg hl))
    rw [if_neg hz, if_neg hl]
    exact congrArg Host.Outcome.next ((command_of_check hp hcheck).trans (connectAction_accept_of_idle hp _))

/-- Settles O13: with the link open the check passes. -/
theorem closeFromIdleClosesTheLink : Obligations.CloseFromIdleClosesTheLink := by
  intro s hp hl
  have hcheck : check s.link ⟨0x02#8, 0#16, 0#16⟩ = none := by rw [hl]; decide
  have hidle : ¬ (s.phase ≠ .idle ∧ 0#16 = 0#16 ∧ 0#16 = 0#16) := fun h => h.1 hp
  rw [exec, execClose, if_neg hidle, command_of_check hp hcheck]
  simp [closeAction, State.closeLink, State.transportClose, State.freshChannel, State.logEvent, State.postOk,
    State.accept, hp]

/-- Settles O14: the exact CLOSE aborts. -/
theorem closeInFlightAborts : Obligations.CloseInFlightAborts := fun _ hp =>
  congrArg Host.Outcome.next (if_pos ⟨hp, rfl, rfl⟩)

/-! ### The start of a transaction -/

/-- Settles O15: with the link open a write passes its check. -/
theorem writeRegStartsATransaction : Obligations.WriteRegStartsATransaction := fun _ reg val hp hl =>
  exec_writeReg_of_opened hp hl reg val

/-- A read of one or two registers passes its check when the link is open (R132). -/
theorem check_readRegs {start count : Word} (hpos : 1 ≤ count.toNat) (htwo : count.toNat ≤ 2)
    (hstart : start.toNat ≤ 255) : check .opened ⟨0x03#8, start, count⟩ = none := by
  rw [contractCheckFollowsItsTable .opened (.readRegs start count) _ rfl rfl]
  simp [contractFailure, htwo.not_gt, hstart.not_gt, Nat.ne_of_gt hpos]

/-- Acceptance of a read puts its frame in TXBUF and enters TX (R138). -/
theorem exec_readRegs_of_opened {s : State} {start count : Word} (hp : s.phase = .idle) (hl : s.link = .opened)
    (hpos : 1 ≤ count.toNat) (htwo : count.toNat ≤ 2) (hstart : start.toNat ≤ 255) :
    exec (.readRegs start count) s = .next ((s.accept ⟨0x03#8, start, count⟩).startTransaction
      (buildReadFrame s.cfg.devAddr (lowByte start) (lowByte count))) :=
  congrArg Host.Outcome.next (command_of_check hp (hl ▸ check_readRegs hpos htwo hstart))

/-- Settles O16: with one or two registers from an 8-bit start a read passes its check. -/
theorem readRegsStartsATransaction : Obligations.ReadRegsStartsATransaction := by
  intro s start count hp hl hpos htwo hstart
  rw [← lowByte_eq_extract, ← lowByte_eq_extract]
  exact exec_readRegs_of_opened hp hl hpos htwo hstart

end Sys2Proof.Machine
end

section
/-!
PROOFS. The block's step of 42_transactions.md: the word it takes from the port (R130, R131, R136), and the own
step of each phase in flight (R139 to R145).
-/

namespace Sys2Proof.Machine

/-! ### The command port -/

/-- Settles O25: the block takes the oldest word and runs it. -/
theorem stepRunsThePresentedCommand : Obligations.StepRunsThePresentedCommand := fun _ _ _ ha hp hport =>
  step_of_command ha hp hport

/-- In flight the block takes a presented CLOSE when the draw says so (R130, R209). -/
theorem step_of_close {s : State} (ha : s.draw.agent = .block) (hp : s.phase ≠ .idle) (hmem : closeWord ∈ s.port)
    (habort : s.draw.abort = true) :
    step s = finishStep (exec (.close 0#16 0#16) { s with port := s.port.erase closeWord }) := by
  simp [step, agentMove, ha, blockMove, State.fetchCommand, hp, hmem, habort, decodeCommand_closeWord]

/-- Settles O27: the CLOSE that is taken aborts. -/
theorem stepTakesAPresentedClose : Obligations.StepTakesAPresentedClose := by
  intro s ha hp hmem habort
  have haborts := closeInFlightAborts { s with port := s.port.erase closeWord } hp
  exact (step_of_close ha hp hmem habort).trans (congrArg finishStep haborts)

theorem PhaseMove.port {s u : State} (h : PhaseMove s u) : u.port = s.port := by
  cases h <;> rfl

/-- Settles O28: in flight the block takes the CLOSE that aborts and no other word. -/
theorem heldWordsStayPresented : Obligations.HeldWordsStayPresented := by
  intro s t ha hp h
  obtain ⟨u, rfl, hm⟩ := step_move h
  cases hm with
  | aborted => exact .inr ⟨rfl, rfl, rfl⟩
  | phase _ _ hm => exact .inl hm.port
  | command _ _ _ hp' => exact absurd hp' hp
  | presented _ ha' => simp [ha] at ha'
  | stayed | reset | channel | ticked => exact .inl rfl

/-! ### Phase TX -/

/-- Settles O26: the phase's own step runs the frame. -/
theorem stepRunsTheFrameInTxbuf : Obligations.StepRunsTheFrameInTxbuf := by
  intro s i hturn hp hi
  rw [step_of_phaseTurn hturn, phaseStep, hp]
  simp only [hi]
  rfl

/-- Settles O29: what stands in TXBUF is sent, decoded or not. -/
theorem txPhaseSendsTxbuf : Obligations.TxPhaseSendsTxbuf := by
  intro s hturn hp
  rw [step_of_phaseTurn hturn, phaseStep_of_tx hp, sendFrame_eq]
  cases s.draw.sendOk <;> rfl

/-! ### Phase RX -/

/-- In RX the block takes the enabled step that the draw names (R209; log entry 21). -/
theorem step_of_rx_choice {s : State} {n : Nat} (hturn : s.PhaseTurn) (hp : s.phase = .rx)
    (hn : n < s.rxSteps.length) (hc : s.draw.rxChoice = n) :
    step s = .next (s.rxStep s.rxSteps[n]).drawn := by
  have hphase : rxPhase s = s.rxStep s.rxSteps[n] := by
    unfold rxPhase
    split
    · next hnil => simp [hnil] at hn
    · next first rest hsteps => rw [← hsteps, hc, Nat.mod_eq_of_lt hn, List.getD_eq_getElem _ _ hn]
  rw [step_of_phaseTurn hturn, phaseStep, hp, hphase]
  rfl

/-- The draw of a step of the block in RX: which enabled step, and the length of a receive. -/
def rxDraw (choice len : Nat) : Draw := { (default : Draw) with agent := .block, rxChoice := choice, recvLen := len }

/-- A step of RX that is enabled may be taken, whatever length is drawn (R209, R216). -/
theorem exists_step_of_rxEnabled {s : State} {a : RxStep} (hp : s.phase = .rx) (hport : s.port = [])
    (ha : s.rxEnabled a = true) (len : Nat) : ∃ n,
      step { s with pending := [rxDraw n len] } =
        .next (({ s with pending := [rxDraw n len] } : State).rxStep a).drawn := by
  have hmem : a ∈ s.rxSteps := List.mem_filter.mpr ⟨by cases a <;> simp, ha⟩
  obtain ⟨n, hn, rfl⟩ := List.getElem_of_mem hmem
  exact ⟨n, step_of_rx_choice (s := { s with pending := [rxDraw n len] }) (phaseTurn_of_port_nil rfl hport) hp
    hn rfl⟩

/-- A receive takes one byte more than the drawn number when the FIFO and RXBUF allow it (R140; log entry 21). -/
theorem rxStep_data_of_draw {s : State} {k : Nat} (hpos : 1 ≤ k) (hten : k ≤ 10) (hfifo : k ≤ s.rxFifo.length)
    (hd : s.draw.recvLen = k - 1) : s.rxStep .data = s.receive k := by
  have hlt : k - 1 < min Config.replyBufLen s.rxFifo.length := by
    simp only [Config.replyBufLen]
    omega
  rw [State.rxStep, State.receiveLength, hd, Nat.mod_eq_of_lt hlt, Nat.add_sub_cancel' hpos]

/-- Settles O31: with a byte in the FIFO the receive is enabled. -/
theorem everyReceiveLengthMayHappen : Obligations.EveryReceiveLengthMayHappen := by
  intro s k hp hport hpos hten hfifo
  have hdata : s.rxEnabled .data = true := by
    simpa [State.rxEnabled] using List.ne_nil_of_length_pos (hpos.trans hfifo)
  obtain ⟨n, hstep⟩ := exists_step_of_rxEnabled hp hport hdata (k - 1)
  have hreceive := rxStep_data_of_draw (s := { s with pending := [rxDraw n (k - 1)] }) hpos hten hfifo rfl
  exact ⟨_, hstep.trans (congrArg (Host.Outcome.next ∘ State.drawn) hreceive)⟩

/-- Settles O32: each failure is one of the enabled steps. -/
theorem everyEnabledReceiveFailureMayBeTaken : Obligations.EveryEnabledReceiveFailureMayBeTaken := by
  rintro s kind sub hp hport
    (⟨herror, rfl, rfl⟩ | ⟨hclosed, hfifo, rfl, rfl⟩ | ⟨⟨ms, hms, hpassed⟩, rfl, rfl⟩)
  · obtain ⟨n, hstep⟩ := exists_step_of_rxEnabled (a := .recvFailed) hp hport herror 0
    exact ⟨_, hstep⟩
  · obtain ⟨n, hstep⟩ := exists_step_of_rxEnabled (a := .channelClosed) hp hport
      (by simp [State.rxEnabled, hclosed, hfifo]) 0
    exact ⟨_, hstep⟩
  · obtain ⟨n, hstep⟩ := exists_step_of_rxEnabled (a := .deadline) hp hport
      (by simp [State.rxEnabled, State.deadlinePassed, State.elapsed, hms, hpassed]) 0
    exact ⟨_, hstep⟩

/-! ### Phases DECODE and SETTLE -/

/-- Settles O35: the reply of a write is not interpreted. -/
theorem decodeOfAWriteStartsTheSettle : Obligations.DecodeOfAWriteStartsTheSettle := by
  intro s hturn hp hop
  rw [step_of_decode hturn hp, decodePhase_of_write hop]
  rfl

/-- Settles O36, by the answer of the reply check. -/
theorem decodeOfAReadChecksTheReply : Obligations.DecodeOfAReadChecksTheReply := by
  intro s hturn hp hop
  have hread : s.cur.op = fcRead := hop
  rw [step_of_decode hturn hp, decodePhase, if_pos hread]
  cases validateReadReply s.cfg.checkReplyCrc s.rxBuf s.rxLen.toNat s.cur.b.toNat <;> rfl

/-- SETTLE waits as long as the interval has not passed (R145). -/
theorem settlePhase_of_lt {s : State} (h : s.now - s.tMark < s.cfg.settleMs) : settlePhase s = s :=
  if_neg (by simpa [State.elapsed] using h)

/-- A read posts the values of its reply once the interval has passed (R145). -/
theorem settlePhase_of_read {s : State} (hop : s.cur.op = 0x03#8) (hpassed : s.cfg.settleMs ≤ s.now - s.tMark) :
    settlePhase s = s.postOk s.cur.b.toNat ((decodeReadReply s.rxBuf s.cur.b.toNat).getD 0 0#16)
      ((decodeReadReply s.rxBuf s.cur.b.toNat).getD 1 0#16) := by
  have helapsed : s.elapsed s.cfg.settleMs = true := decide_eq_true hpassed
  have hread : s.cur.op = fcRead := hop
  rw [settlePhase, if_pos helapsed, if_pos hread]

/-- Settles O37: before the interval has passed, after it for a write, and for a read of one and of two values. -/
theorem settleWaitsThenPosts : Obligations.SettleWaitsThenPosts := by
  intro s hturn hp hreq
  rw [step_of_settle hturn hp]
  by_cases hwait : s.now - s.tMark < s.cfg.settleMs
  · rw [settlePhase_of_lt hwait, if_pos hwait]
    rfl
  have hpassed := Nat.le_of_not_lt hwait
  rw [if_neg hwait]
  rcases hreq with hop | ⟨hop, -, hb | hb⟩
  · have hread : ¬ s.cur.op = 0x03#8 := by rw [hop]; decide
    rw [settlePhase_of_write hop hpassed, if_neg hread]
    rfl
  · rw [settlePhase_of_read hop hpassed, if_pos hop, hb]
    rfl
  · rw [settlePhase_of_read hop hpassed, if_pos hop, hb]
    rfl

end Sys2Proof.Machine
end

section
/-!
PROOFS. The order of the wire log of 42_transactions.md (R140, R147, R148).
-/

namespace Sys2Proof.Machine

/-! ### The order of the wire log

Events that are in order whatever stands before them may be appended; a receive is so together with the frame it
answers. -/

theorem receivesFollowSends_append {fs : List WireEvent} (hfs : ∀ b, receivesFollowSends b fs = true)
    (sent : Bool) (es : List WireEvent) :
    receivesFollowSends sent (es ++ fs) = receivesFollowSends sent es := by
  induction es generalizing sent with
  | nil => exact hfs sent
  | cons e es ih => cases e <;> simp only [List.cons_append, receivesFollowSends, ih]

/-- A receive of 1 to 10 bytes may be logged after the frame that was sent (R140, R147). -/
theorem receivesFollowSends_answer {sent : Bool} {es : List WireEvent} {f : Frame} {bs : List Byte}
    (hpos : 1 ≤ bs.length) (hten : bs.length ≤ 10)
    (h : receivesFollowSends sent (es ++ [.tx f true]) = true) :
    receivesFollowSends sent (es ++ [.tx f true] ++ [.rx bs]) = true := by
  have hanswer : ∀ b, receivesFollowSends b [.tx f true, .rx bs] = true := by
    simp [receivesFollowSends, hpos, hten]
  rw [receivesFollowSends_append fun _ => rfl] at h
  rwa [List.append_assoc, List.singleton_append, receivesFollowSends_append hanswer]

/-- A move that logs nothing and does not enter RX keeps the order. -/
theorem State.WireOrderOk.of_log_eq {s u : State} (h : s.WireOrderOk) (hlog : u.wireLog = s.wireLog)
    (hp : u.phase = .rx → s.phase = .rx) : u.WireOrderOk := by
  rw [State.WireOrderOk, hlog]
  exact ⟨h.1, h.2 ∘ hp⟩

/-- A move that logs an event in order anywhere and leaves the block out of RX keeps the order. -/
theorem State.WireOrderOk.of_log_append {s u : State} {e : WireEvent} (h : s.WireOrderOk)
    (hlog : u.wireLog = s.wireLog ++ [e]) (he : ∀ b, receivesFollowSends b [e] = true)
    (hp : u.phase ≠ .rx) : u.WireOrderOk := by
  rw [State.WireOrderOk, hlog]
  exact ⟨(receivesFollowSends_append he _ _).trans h.1, fun hrx => absurd hrx hp⟩

/-- In RX the receive answers the frame that was sent last. -/
theorem wireOrderOk_receive {s : State} {k : Nat} (h : s.WireOrderOk) (hp : s.phase = .rx) (hpos : 1 ≤ k)
    (hten : k ≤ 10) (hfifo : k ≤ s.rxFifo.length) : (s.receive k).WireOrderOk := by
  obtain ⟨horder, hlast⟩ := h
  obtain ⟨es, f, hlog⟩ := hlast hp
  have hlen : (s.rxFifo.take k).length = k := List.length_take_of_le hfifo
  refine ⟨?_, fun hrx => by simp at hrx⟩
  rw [State.receive_wireLog, hlog]
  exact receivesFollowSends_answer (hlen.symm ▸ hpos) (hlen.symm ▸ hten) (hlog ▸ horder)

theorem CommandMove.wireOrderOk {s u : State} {i : Instr} (h : CommandMove s i u) (hs : s.WireOrderOk) :
    u.WireOrderOk := by
  cases h with
  | connected | connectFailed | closed => exact hs.of_log_append rfl (fun _ => rfl) (by simp)
  | readStarted | writeStarted | crcInit | crcFeed | rejected => exact hs.of_log_eq rfl (by simp)

theorem PhaseMove.wireOrderOk {s u : State} (h : PhaseMove s u) (hs : s.WireOrderOk) : u.WireOrderOk := by
  cases h with
  | waited => exact hs
  | sent => exact ⟨(receivesFollowSends_append (fun _ => rfl) _ _).trans hs.1, fun _ => ⟨_, _, rfl⟩⟩
  | sendFailed => exact hs.of_log_append rfl (fun _ => rfl) (by simp)
  | received k hp hpos hten hfifo => exact wireOrderOk_receive hs hp hpos hten hfifo
  | failed | checked | posted => exact hs.of_log_eq rfl (by simp)

theorem Move.wireOrderOk {s u : State} (h : Move s u) (hs : s.WireOrderOk) : u.WireOrderOk := by
  cases h with
  | stayed | presented | channel | ticked => exact hs
  | reset => exact hs.of_log_eq rfl (by simp [State.reset])
  | command _ _ _ _ _ _ hm => exact hm.wireOrderOk hs
  | aborted => exact hs.of_log_append rfl (fun _ => rfl) (by simp [abortAction])
  | phase _ _ hm => exact hm.wireOrderOk hs

/-- Settles O47: only a receive in RX logs a receive, and there the frame it answers stands last in the log. -/
theorem stepKeepsReceivesAfterSends : Obligations.StepKeepsReceivesAfterSends := by
  intro s t hs h
  obtain ⟨u, rfl, hm⟩ := step_move h
  exact hm.wireOrderOk hs

end Sys2Proof.Machine
end

section
/-!
PROOFS. The errors of 42_transactions.md: which a transaction in flight posts and when (R139 to R145, R149, R151),
and the receive that no answer ends (R150).
-/

namespace Sys2Proof.Machine

/-! ### What a phase posts -/

/-- The errors the own step of a phase can post, and what each presumes (R139 to R142, R144). -/
inductive PhaseFailure (s : State) : BlockError → Prop
  | sendFailed (hp : s.phase = .tx) : PhaseFailure s (.transportFailure .sendFailed)
  | recvFailed (hp : s.phase = .rx) : PhaseFailure s (.transportFailure .recvFailed)
  | channelClosed (hp : s.phase = .rx) : PhaseFailure s (.transportFailure .channelClosed)
  | deadline (hp : s.phase = .rx) (hpassed : s.deadlinePassed = true) : PhaseFailure s .timeoutFailure
  | malformed (c : MalformedCause) (hp : s.phase = .decode) (hop : s.cur.op = fcRead) :
      PhaseFailure s (.malformedReply c)

/-- What the own step of a phase leaves as the posted result: what stood before, a success, or one of its failures. -/
inductive PhasePosts (s u : State) : Prop
  | kept (hd : u.done = s.done)
  | success (he : u.err = false) (hk : u.errKind = 0#4)
  | failure {e : BlockError} (hf : PhaseFailure s e) (hk : u.errKind = e.kind) (hsub : u.errSub = e.sub)

theorem sendFrame_posts {s : State} (hp : s.phase = .tx) (f : Frame) : PhasePosts s (s.sendFrame f) := by
  rcases sendFrame_cases s f with ⟨-, he⟩ | ⟨-, he⟩
  · rw [he]; exact .kept rfl
  · rw [he]; exact .failure (.sendFailed hp) rfl rfl

theorem rxPhase_posts {s : State} (hp : s.phase = .rx) : PhasePosts s (rxPhase s) := by
  rcases rxPhase_cases s with ⟨-, he⟩ | ⟨a, ha, he⟩
  · rw [he]; exact .kept rfl
  · rw [he]
    cases a with
    | data => exact .kept rfl
    | recvFailed => exact .failure (.recvFailed hp) rfl rfl
    | channelClosed => exact .failure (.channelClosed hp) rfl rfl
    | deadline => exact .failure (.deadline hp ha) rfl rfl

theorem decodePhase_posts {s : State} (hp : s.phase = .decode) : PhasePosts s (decodePhase s) := by
  rcases decodePhase_cases s with ⟨hop, c, he⟩ | ⟨he, -⟩
  · rw [he]; exact .failure (.malformed c hp hop) rfl rfl
  · rw [he]; exact .kept rfl

theorem settlePhase_posts (s : State) : PhasePosts s (settlePhase s) := by
  rcases settlePhase_cases s with ⟨-, he⟩ | ⟨-, n, d0, d1, he, -⟩
  · rw [he]; exact .kept rfl
  · rw [he]; exact .success rfl rfl

theorem PhasePosts.drawn {s u : State} (h : PhasePosts s u) : PhasePosts s u.drawn := by
  cases h with
  | kept hd => exact .kept hd
  | success he hk => exact .success he hk
  | failure hf hk hsub => exact .failure hf hk hsub

/-- What the step of the block posts when it takes no command. -/
theorem phaseTurn_posts {s t : State} (hturn : s.PhaseTurn) (h : step s = .next t) : PhasePosts s t := by
  have posts {u : State} (hu : phaseStep s = .next u) (hpost : PhasePosts s u) : PhasePosts s t := by
    rw [step_of_phaseTurn hturn, hu] at h
    exact Host.Outcome.next.inj h ▸ hpost.drawn
  cases hp : s.phase with
  | idle => exact posts (by rw [phaseStep, hp]) (.kept rfl)
  | tx => exact posts (phaseStep_of_tx hp) (sendFrame_posts hp s.txBuf)
  | rx => exact posts (by rw [phaseStep, hp]) (rxPhase_posts hp)
  | decode => exact posts (by rw [phaseStep, hp]) (decodePhase_posts hp)
  | settle => exact posts (by rw [phaseStep, hp]) (settlePhase_posts s)

theorem CommandMove.errKind_ne_timeout {s u : State} {i : Instr} (h : CommandMove s i u) : u.errKind ≠ 4#4 := by
  cases h <;> simp

/-- A step that posts a result runs a command from IDLE, aborts, or is the own step of a phase. -/
theorem step_posts {s t : State} (hd : s.done = false) (h : step s = .next t) (hd' : t.done = true) :
    (s.phase = .idle ∧ t.errKind ≠ 4#4) ∨ (t.errKind = 2#4 ∧ t.errSub = 4#4) ∨ (s.PhaseTurn ∧ PhasePosts s t) := by
  obtain ⟨u, rfl, hm⟩ := step_move h
  cases hm with
  | command _ _ _ hp _ _ hm => exact .inl ⟨hp, hm.errKind_ne_timeout⟩
  | aborted => exact .inr (.inl ⟨rfl, rfl⟩)
  | phase ha hf => exact .inr (.inr ⟨⟨ha, hf⟩, phaseTurn_posts ⟨ha, hf⟩ h⟩)
  | reset => cases hd'
  | stayed | presented | channel | ticked => simp [hd] at hd'

theorem deadlinePassed_iff (s : State) :
    s.deadlinePassed = true ↔ ∃ ms, s.cfg.readDeadlineMs = some ms ∧ ms ≤ s.now - s.tMark := by
  cases hms : s.cfg.readDeadlineMs <;> simp [State.deadlinePassed, State.elapsed, hms]

/-- Settles O33: the timeout is the failure of a phase whose premise is the passed deadline. -/
theorem timeoutIsNeverEarly : Obligations.TimeoutIsNeverEarly := by
  intro s t hd h hd' hk
  rcases step_posts hd h hd' with ⟨-, hne⟩ | ⟨habort, -⟩ | ⟨-, hpost⟩
  · exact absurd hk hne
  · simp [hk] at habort
  · cases hpost with
    | kept hd'' => simp [hd, hd'] at hd''
    | success _ hzero => simp [hk] at hzero
    | failure hf hkind =>
      cases hf with
      | deadline hp hpassed => exact ⟨hp, (deadlinePassed_iff s).mp hpassed⟩
      | sendFailed | recvFailed | channelClosed | malformed => simp [hk] at hkind

/-- Settles O56: the invariant says that no result is posted before and that an error after is a posted one. -/
theorem transactionsPostOnlyTheirOwnErrors : Obligations.TransactionsPostOnlyTheirOwnErrors := by
  intro s t hs hp h herr
  have hd : s.done = false := by
    obtain ⟨⟨hbusy, -, -, -, -, hdone⟩, -⟩ := hs
    exact hdone (hbusy.mpr hp)
  have hd' : t.done = true := by
    obtain ⟨⟨-, -, -, hposted, -, -⟩, -⟩ := stepKeepsTheInvariant s t hs h
    exact (hposted herr).1
  rcases step_posts hd h hd' with ⟨hidle, -⟩ | ⟨hk, hsub⟩ | ⟨-, hpost⟩
  · exact absurd hidle hp
  · exact .inl ⟨hk, by simp [hsub]⟩
  · cases hpost with
    | kept hd'' => simp [hd, hd'] at hd''
    | success he => simp [herr] at he
    | failure hf hk hsub =>
      rw [hk, hsub]
      cases hf with
      | sendFailed | recvFailed | channelClosed => exact .inl ⟨rfl, by decide⟩
      | deadline => exact .inr (.inl rfl)
      | malformed c _ hop => exact .inr (.inr ⟨rfl, hop⟩)

/-- Settles O55: no error but an abort touches the link, which is open in flight. -/
theorem errorsLeaveTheLinkOpen : Obligations.ErrorsLeaveTheLinkOpen := by
  intro s t ⟨_, _, _, _, hreq, _⟩ h
  refine ⟨fun hp herr hnabort => ?_, fun hclosed hne => ?_⟩
  · obtain ⟨hopen, -⟩ := hreq hp
    obtain ⟨u, rfl, hm⟩ := step_move h
    cases hm with
    | aborted => exact absurd ⟨rfl, rfl⟩ hnabort
    | reset => cases herr
    | command _ _ _ hidle => exact absurd hidle hp
    | phase _ _ hm => exact hm.link.trans hopen
    | stayed | presented | channel | ticked => exact hopen
  · have hchanged : t.link ≠ s.link := hclosed.symm ▸ hne.symm
    rcases onlyConnectCloseAndResetChangeTheLink s t h hchanged with ⟨-, hl⟩ | ⟨-, -, hl⟩ | ⟨htakes, -⟩
    · simp [hclosed] at hl
    · simp [hclosed] at hl
    · exact htakes

/-! ### The receive that no answer ends -/

/-- The block waits in RX with no deadline, and nothing has come of the transport (R150). -/
structure State.Silent (s : State) : Prop where
  phase : s.phase = .rx
  deadline : s.cfg.readDeadlineMs = none
  fifo : s.rxFifo = []
  error : s.rxError = false
  closed : s.rxClosed = false

/-- Then no step of RX is enabled. -/
theorem State.Silent.rxSteps {s : State} (h : s.Silent) : s.rxSteps = [] := by
  refine List.filter_eq_nil_iff.mpr fun a _ => ?_
  cases a with
  | data => simp [State.rxEnabled, h.fifo]
  | recvFailed => simp [State.rxEnabled, h.error]
  | channelClosed => simp [State.rxEnabled, h.closed]
  | deadline => simp [State.rxEnabled, State.deadlinePassed, h.deadline]

theorem State.Silent.step_of_phaseTurn {s : State} (h : s.Silent) (hturn : s.PhaseTurn) :
    step s = .next s.drawn := by
  have hwait : rxPhase s = s := by simp [rxPhase, h.rxSteps]
  rw [Machine.step_of_phaseTurn hturn, phaseStep, h.phase, hwait]
  rfl

/-- What a step can do to a silent receive (R150). -/
theorem State.Silent.step_cases {s t : State} (h : s.Silent) (hstep : step s = .next t) :
    s.TakesCommand (.close 0#16 0#16) ∨ s.TakesReset ∨ (s.draw.agent = .transport ∧ t.phase = .rx) ∨ t.Silent := by
  obtain ⟨u, rfl, hm⟩ := step_move hstep
  cases hm with
  | aborted ha _ hf => exact .inl ⟨ha, _, _, hf, decodeCommand_closeWord⟩
  | reset hr => exact .inr (.inl hr)
  | channel _ _ _ ha => exact .inr (.inr (.inl ⟨ha, h.phase⟩))
  | phase ha hf =>
    have hsame := (h.step_of_phaseTurn ⟨ha, hf⟩).symm.trans hstep
    exact .inr (.inr (.inr (Host.Outcome.next.inj hsame ▸ { h with })))
  | command _ _ _ hidle => simp [h.phase] at hidle
  | stayed | presented | ticked => exact .inr (.inr (.inr { h with }))

/-- Settles O34: of the steps that are no CLOSE and no reset only the transport's can end the silence, and it too
leaves the block in RX. -/
theorem silentDeviceHangsTheReceive : Obligations.SilentDeviceHangsTheReceive := by
  intro s hp hdeadline hfifo herror hclosed
  have hs : s.Silent := ⟨hp, hdeadline, hfifo, herror, hclosed⟩
  refine ⟨hs.step_of_phaseTurn, fun t h hleft => ?_, fun t h hagent => ?_⟩
  · rcases hs.step_cases h with hclose | hreset | ⟨-, hrx⟩ | ht
    · exact .inl hclose
    · exact .inr hreset
    · exact absurd hrx hleft
    · exact absurd ht.phase hleft
  · rcases hs.step_cases h with hclose | hreset | ⟨ha, -⟩ | ht
    · exact .inl hclose
    · exact .inr (.inl hreset)
    · exact absurd ha hagent
    · exact .inr (.inr ⟨ht.phase, ht.deadline, ht.fifo, ht.error, ht.closed⟩)

end Sys2Proof.Machine
end

section
/-!
PROOFS. A whole read transaction of 42_transactions.md, of one or of two registers: the values of the reply are
posted (R131, R138 to R145, R115).
-/

namespace Sys2Proof.Machine

/-- What acceptance of a read leaves of a state with that one word on the port. -/
def State.readStarted (s : State) (start count : Word) : State :=
  ((({ s with port := [] } : State).accept ⟨0x03#8, start, count⟩).startTransaction
    (buildReadFrame s.cfg.devAddr (lowByte start) (lowByte count))).drawn

/-- The step that takes a read from the port. -/
theorem step_of_readRegs {s : State} {start count : Word} (ha : s.draw.agent = .block) (hp : s.phase = .idle)
    (hl : s.link = .opened) (hport : s.port = [(Command.mk 0x03#8 start count).word]) (hpos : 1 ≤ count.toNat)
    (htwo : count.toNat ≤ 2) (hstart : start.toNat ≤ 255) : step s = .next (s.readStarted start count) := by
  have hdecode : decodeCommand (Command.mk 0x03#8 start count).word = .readRegs start count :=
    decodeCommand_of_command? rfl rfl
  rw [step_of_command ha hp hport, hdecode]
  exact congrArg finishStep (exec_readRegs_of_opened (s := { s with port := [] }) hp hl hpos htwo hstart)

/-- A read reply that passes its check starts the settle interval (R144). -/
theorem decodePhase_of_ok {s : State} (hop : s.cur.op = 0x03#8)
    (hok : validateReadReply s.cfg.checkReplyCrc s.rxBuf s.rxLen.toNat s.cur.b.toNat = .ok) :
    decodePhase s = s.startSettle := by
  have hread : s.cur.op = fcRead := hop
  rw [decodePhase, if_pos hread, hok]

/-- A reply that comes into an empty FIFO stands at the start of RXBUF (R34, R140). -/
theorem replied_rxBuf {s : State} {reply : List Byte} (hfifo : s.rxFifo = []) :
    (s.replied reply).rxBuf = reply ++ s.rxBuf.drop reply.length := by
  simp [State.replied, State.arrived, State.sent, hfifo]

/-- A read in DECODE with its complete reply in RXBUF posts the values of the reply (R144, R145, R115). -/
theorem run_settled_read {s : State} {h0 h1 h2 : Byte} {vs : List Word} {tail : List Byte} {d4 d5 d6 : Draw}
    {ds : List Draw} (hd : SettlesAfter s.cfg.settleMs d4 d5 d6) (hpend : s.pending = d4 :: d5 :: d6 :: ds)
    (hp : s.phase = .decode) (hport : s.port = []) (hop : s.cur.op = 0x03#8) (hcount : s.cur.b.toNat = vs.length)
    (hbuf : s.rxBuf = replyOf h0 h1 h2 vs ++ tail) (hlen : (replyOf h0 h1 h2 vs).length ≤ s.rxLen.toNat) (k : Nat) :
    Sys2Proof.core.run (k + 3) s = Sys2Proof.core.run k
      ((s.settled d5.tick).postOk vs.length (vs.getD 0 0#16) (vs.getD 1 0#16)).drawn := by
  obtain ⟨hok, hvalues⟩ :=
    completeReplyDecodesToItsValues s.cfg.checkReplyCrc h0 h1 h2 vs tail s.rxLen.toNat hlen
  rw [← hbuf, ← hcount] at hok hvalues
  have hposted : settlePhase (s.settled d5.tick) = (s.settled d5.tick).postOk s.cur.b.toNat
      ((decodeReadReply s.rxBuf s.cur.b.toNat).getD 0 0#16)
      ((decodeReadReply s.rxBuf s.cur.b.toNat).getD 1 0#16) :=
    settlePhase_of_read hop (settled_passed hd.interval)
  rw [run_settled hd hpend hp hport (decodePhase_of_ok hop hok) k, hposted, hvalues, hcount]

/-- What a whole read of the registers `vs` leaves (R145). -/
def State.readPosted (s : State) (start count : Word) (reply : List Byte) (tick : Nat) (vs : List Word) : State :=
  ((((s.readStarted start count).replied reply).settled tick).postOk vs.length (vs.getD 0 0#16)
    (vs.getD 1 0#16)).drawn

/-- A read whose complete reply arrives whole posts its values: acceptance, then TX to DECODE, then DECODE to the
end of SETTLE. -/
theorem run_read {s : State} {start count : Word} {h0 h1 h2 : Byte} {vs : List Word}
    {d0 d1 d2 d3 d4 d5 d6 : Draw} (hp : s.phase = .idle) (hl : s.link = .opened) (hfifo : s.rxFifo = [])
    (hstart : start.toNat ≤ 255) (hcount : count.toNat = vs.length) (hpos : 1 ≤ vs.length) (htwo : vs.length ≤ 2)
    (hport : s.port = [(Command.mk 0x03#8 start count).word]) (hpend : s.pending = [d0, d1, d2, d3, d4, d5, d6])
    (haccept : d0.agent = .block) (hreplies : RepliesWhole (replyOf h0 h1 h2 vs) d1 d2 d3)
    (hsettles : SettlesAfter s.cfg.settleMs d4 d5 d6) :
    Sys2Proof.core.run 7 s = .next (s.readPosted start count (replyOf h0 h1 h2 vs) d5.tick vs) := by
  have hten : (replyOf h0 h1 h2 vs).length ≤ 10 := by rw [length_replyOf]; omega
  have hbegin : step s = .next (s.readStarted start count) :=
    step_of_readRegs (draw_of_pending hpend ▸ haccept) hp hl hport (hcount ▸ hpos) (hcount ▸ htwo) hstart
  have hpend' : (s.readStarted start count).pending = [d1, d2, d3, d4, d5, d6] := congrArg List.tail hpend
  have hreply := run_replied hreplies hpend' rfl hl rfl hfifo hten 3
  have hsettle := run_settled_read (s := (s.readStarted start count).replied (replyOf h0 h1 h2 vs)) hsettles
    (replied_pending (replyOf h0 h1 h2 vs) hpend') rfl rfl rfl hcount (replied_rxBuf hfifo)
    (replied_rxLen_toNat (s.readStarted start count) hten).ge 0
  exact (run_succ hbegin 6).trans (hreply.trans hsettle)

/-- The events of a whole read: its frame, and the reply (R148). -/
theorem readPosted_wireLog {s : State} {start count : Word} {reply : List Byte} {tick : Nat} {vs : List Word}
    (hfifo : s.rxFifo = []) : (s.readPosted start count reply tick vs).wireLog = s.wireLog ++
      [.tx (buildReadFrame s.cfg.devAddr (start.extractLsb' 0 8) (lowByte count)) true, .rx reply] := by
  rw [← lowByte_eq_extract]
  exact replied_wireLog (s := s.readStarted start count) hfifo

/-- Settles O57: the whole read, with two values. -/
theorem readTransactionPostsTheReplyValues : Obligations.ReadTransactionPostsTheReplyValues := by
  intro s start v0 v1 h0 h1 h2 d0 d1 d2 d3 d4 d5 d6 hp hl hfifo hstart hport hpend ha0 ha1 hok ha2 hdeliver ha3
    hchoice hlen ha4 ha5 htick ha6
  have hreplies : RepliesWhole (replyOf h0 h1 h2 [v0, v1]) d1 d2 d3 :=
    ⟨ha1, hok, ha2, hdeliver, ha3, hchoice, by simp [hlen]⟩
  have hrun := run_read hp hl hfifo hstart rfl (by simp) (by simp) hport hpend ha0 hreplies ⟨ha4, ha5, htick, ha6⟩
  exact ⟨_, hrun, rfl, rfl, rfl, rfl, rfl, rfl, rfl, hl, readPosted_wireLog hfifo⟩

/-- Settles O59: the whole read, with one value. -/
theorem oneRegisterReadPostsTheReplyValue : Obligations.OneRegisterReadPostsTheReplyValue := by
  intro s start v0 h0 h1 h2 d0 d1 d2 d3 d4 d5 d6 hp hl hfifo hstart hport hpend ha0 ha1 hok ha2 hdeliver ha3
    hchoice hlen ha4 ha5 htick ha6
  have hreplies : RepliesWhole (replyOf h0 h1 h2 [v0]) d1 d2 d3 :=
    ⟨ha1, hok, ha2, hdeliver, ha3, hchoice, by simp [hlen]⟩
  have hrun := run_read hp hl hfifo hstart rfl (by simp) (by simp) hport hpend ha0 hreplies ⟨ha4, ha5, htick, ha6⟩
  exact ⟨_, hrun, rfl, rfl, rfl, rfl, rfl, rfl, hl, readPosted_wireLog hfifo⟩

end Sys2Proof.Machine
end

section
/-!
PROOFS. The two statements of 60_exceptions.md: the transport's own moves (R216), and the result that every accepted
command posts (R207).
-/

namespace Sys2Proof.Machine

/-! ### The transport's moves -/

/-- While the link is not open the transport does nothing (R216). -/
theorem transportMove_of_not_opened {s : State} (hl : s.link ≠ .opened) (m : TransportMove) :
    transportMove m s = s :=
  if_neg hl

theorem transportMove_idle (s : State) : transportMove .idle s = s :=
  ite_self s

theorem transportMove_deliver {s : State} (hl : s.link = .opened) (bs : List Byte) :
    transportMove (.deliver bs) s = { s with rxFifo := s.rxFifo ++ bs } :=
  if_pos hl

theorem transportMove_setError {s : State} (hl : s.link = .opened) :
    transportMove .setError s = { s with rxError := true } :=
  if_pos hl

theorem transportMove_setClosed {s : State} (hl : s.link = .opened) :
    transportMove .setClosed s = { s with rxClosed := true } :=
  if_pos hl

/-- The transport leaves the draws to the end of the step, so that using one up counts from the state before. -/
theorem transportMove_drawn (m : TransportMove) (s : State) : (transportMove m s).drawn =
    { transportMove m s with drawCount := s.drawCount + 1, pending := s.pending.tail } := by
  rcases transportMove_cases m s with he | ⟨-, ⟨bs, he⟩ | he | he⟩ <;> rw [he] <;> rfl

theorem step_of_transport {s : State} (ha : s.draw.agent = .transport) :
    step s = .next (transportMove s.draw.transportMove s).drawn := by
  simp [step, agentMove, ha, finishStep]

/-- Settles O43: the state asked for is what the drawn move leaves, read off move by move. -/
theorem transportMovesTouchOnlyItsChannel : Obligations.TransportMovesTouchOnlyItsChannel := by
  intro s ha
  refine ⟨transportMove s.draw.transportMove s, ?_, fun hl => transportMove_of_not_opened hl _, fun hm => ?_,
    fun hl => ⟨fun bs hm => ?_, fun hm => ?_, fun hm => ?_⟩⟩
  · rw [step_of_transport ha, transportMove_drawn]
  · rw [hm, transportMove_idle]
  · rw [hm, transportMove_deliver hl]
  · rw [hm, transportMove_setError hl]
  · rw [hm, transportMove_setClosed hl]

/-! ### Every accepted command posts a result -/

/-- A command taken from IDLE ends in its step with a result, or starts a transaction with none yet (R131, R207). -/
theorem CommandMove.posts_or_starts {s u : State} {i : Instr} (h : CommandMove s i u) :
    (u.phase = .idle ∧ u.done = true) ∨ (u.phase = .tx ∧ u.done = false) := by
  cases h with
  | readStarted | writeStarted => exact .inr ⟨rfl, rfl⟩
  | connected | connectFailed | closed | crcInit | crcFeed | rejected => exact .inl ⟨rfl, rfl⟩

/-- The own step of a phase ends the transaction with a result, or keeps it in flight and leaves DONE alone (R207). -/
theorem PhaseMove.posts_or_stays {s u : State} (h : PhaseMove s u) :
    (u.phase = .idle ∧ u.done = true) ∨ (u.phase ≠ .idle ∧ u.done = s.done) := by
  have hp := h.phase_ne_idle
  cases h with
  | sendFailed | failed | posted => exact .inl ⟨rfl, rfl⟩
  | waited => exact .inr ⟨hp, rfl⟩
  | sent | received | checked => exact .inr ⟨by simp, rfl⟩

/-- Settles O49: the block takes a command, aborts, or makes its phase's own step. -/
theorem everyAcceptedCommandPostsAResult : Obligations.EveryAcceptedCommandPostsAResult := by
  intro s t ha h hwork
  obtain ⟨u, rfl, hm⟩ := step_move h
  cases hm with
  | stayed _ hb => exact absurd hwork (by simp [hb ha])
  | command _ _ _ hp _ _ hm => exact hm.posts_or_starts.imp_right fun hstart => .inl ⟨hp, hstart⟩
  | aborted => exact .inl ⟨rfl, rfl⟩
  | phase _ _ hm => exact hm.posts_or_stays.imp_right fun hstay => .inr ⟨hm.phase_ne_idle, hstay⟩
  | presented _ ha' | channel _ _ _ ha' | ticked _ ha' => simp [ha] at ha'
  | reset hr => simp [State.TakesReset, ha] at hr

end Sys2Proof.Machine
end

section

/-! # Reset -/

namespace Sys2Proof.Machine

/-- Settles O41: a reset step answers with the reset block, whose time and wire log are the old state's (R242). -/
theorem resetKeepsTimeAndLog : Obligations.ResetKeepsTimeAndLog := by
  intro s t hreset hstep
  obtain rfl : s.resetBlock.drawn = t := Host.Outcome.next.inj ((step_of_reset hreset).symm.trans hstep)
  exact ⟨by rw [State.drawn_now, State.resetBlock_now], by rw [State.drawn_wireLog, State.resetBlock_wireLog]⟩

end Sys2Proof.Machine
end
